-- ==== Sys2Proof/Word.lean ====
section
/-! DEFINITION. The word types of the engine (00_scope.md R5, R6): every quantity the spec calls a word,
a counter, a stream id or a byte is one of these bit vectors. -/

namespace Sys2Proof

/-- A 32-bit word, "an unsigned 32-bit integer" (R6). `+` on it is addition modulo 2^32. -/
abbrev Word := BitVec 32

/-- A 64-bit quantity: the block counter, the stream id (R6). `+` on it is addition modulo 2^64. -/
abbrev DWord := BitVec 64

/-- A byte of the host's byte streams (20_memory.md R68, R69); the engine moves whole words only. -/
abbrev Byte := BitVec 8

end Sys2Proof
end

