-- ==== Sys2Proof/Machine/CmdError.lean ====
section
/-! DEFINITION. The rejection codes of 60_exceptions.md R250. -/

namespace Sys2Proof.Machine

/-- Why a command is rejected (R250, code NONE apart). A rejection is a next state, never a fault. -/
inductive CmdError where
  | illegalOp
  | reservedNz
  | roundsZero
  | roundsUnsupported
  | backendAbsent
  | notConfigured
  | qrAlias
  | countZero
  deriving DecidableEq, Repr

/-- The 8-bit code recorded in STATUS.ERRCODE (R250). -/
def CmdError.code : CmdError → BitVec 8
  | .illegalOp => 0x01
  | .reservedNz => 0x02
  | .roundsZero => 0x03
  | .roundsUnsupported => 0x04
  | .backendAbsent => 0x05
  | .notConfigured => 0x06
  | .qrAlias => 0x07
  | .countZero => 0x08

end Sys2Proof.Machine
end

