-- ==== Sys2Proof/Syntax.lean ====
section
/-! DEFINITION. The commands of the engine: one constructor per row of spec/opcode_table.json
(30_encoding.md R95). -/

namespace Sys2Proof

/-- A command. The four indices of QROUND are 4-bit fields, each an index of W (R93); the count of PERM and
BLOCKFN is a number of double rounds (R94), bounded by WellFormed to what its 8-bit field holds. -/
inductive Instr where
  | nop
  | config
  | generate
  | regenerate
  | setctr
  | clrerr
  | loadinit
  | qround (a b c d : Fin 16)
  | colround
  | diaground
  | dround
  | perm (n : Nat)
  | blockfn (n : Nat)
  deriving DecidableEq, Repr

end Sys2Proof
end

