-- ==== Sys2Proof/WellFormed.lean ====
section
/-! DEFINITION. Which commands have an encoding (30_encoding.md R92 to R94, R98). -/

namespace Sys2Proof

/-- A command is well formed when its operands fit their fields: an index is 0..15 by its type, a count is
0..255 (R94: "an 8-bit unsigned field"). The values R98 calls operand-value checks (equal indices, n = 0)
are well formed: they decode, and the command itself rejects them. -/
def Instr.wellFormed : Instr → Bool
  | .nop => true
  | .config => true
  | .generate => true
  | .regenerate => true
  | .setctr => true
  | .clrerr => true
  | .loadinit => true
  | .qround _ _ _ _ => true
  | .colround => true
  | .diaground => true
  | .dround => true
  | .perm n => decide (n < 256)
  | .blockfn n => decide (n < 256)

end Sys2Proof
end

