-- ==== Sys2Proof/Decode.lean ====
section
/-! DEFINITION. The decoder of command words and, after it, the encoder (30_encoding.md R90 to R98). Both are
written from the format table of R91 and the opcode map of R95. -/

namespace Sys2Proof

/-- The three formats of R91. -/
inductive Format where
  | z
  | q
  | n
  deriving DecidableEq, Repr

/-- `OP = cmd[7:0]` (R91). -/
def opField (w : Word) : BitVec 8 := w.extractLsb' 0 8

/-- `a = cmd[11:8]` of format Q (R93). -/
def fieldA (w : Word) : Fin 16 := (w.extractLsb' 8 4).toFin

/-- `b = cmd[15:12]` of format Q (R93). -/
def fieldB (w : Word) : Fin 16 := (w.extractLsb' 12 4).toFin

/-- `c = cmd[19:16]` of format Q (R93). -/
def fieldC (w : Word) : Fin 16 := (w.extractLsb' 16 4).toFin

/-- `d = cmd[23:20]` of format Q (R93). -/
def fieldD (w : Word) : Fin 16 := (w.extractLsb' 20 4).toFin

/-- `n = cmd[15:8]` of format N, zero-extended and not scaled (R94). -/
def fieldN (w : Word) : Nat := (w.extractLsb' 8 8).toNat

/-- The reserved field of a format is 0: [31:8] for Z (R92), [31:24] for Q (R93), [31:16] for N (R94). -/
def Format.reservedClear : Format → Word → Bool
  | .z, w => w.extractLsb' 8 24 == 0#24
  | .q, w => w.extractLsb' 24 8 == 0#8
  | .n, w => w.extractLsb' 16 16 == 0#16

/-- The row of the opcode map (R95) that OP selects: its format and its command with the operand fields
read; none for an unassigned opcode (R97). -/
def commandOf (w : Word) : Option (Format × Instr) :=
  match (opField w).toNat with
  | 0x00 => some (.z, .nop)
  | 0x01 => some (.z, .config)
  | 0x02 => some (.z, .generate)
  | 0x03 => some (.z, .regenerate)
  | 0x04 => some (.z, .setctr)
  | 0x05 => some (.z, .clrerr)
  | 0x08 => some (.z, .loadinit)
  | 0x10 => some (.q, .qround (fieldA w) (fieldB w) (fieldC w) (fieldD w))
  | 0x11 => some (.z, .colround)
  | 0x12 => some (.z, .diaground)
  | 0x13 => some (.z, .dround)
  | 0x14 => some (.n, .perm (fieldN w))
  | 0x15 => some (.n, .blockfn (fieldN w))
  | _ => none

/-- Decoding with the two checks of R96 in their order: ILLEGAL_OP, then RESERVED_NZ. Total on every word. -/
def decodeWord (w : Word) : Except Machine.CmdError Instr :=
  match commandOf w with
  | none => .error .illegalOp
  | some (f, i) => if f.reservedClear w then .ok i else .error .reservedNz

/-- The decoder on an instruction given as the opcode table numbers its bits: every command is one 32-bit
word (R90), so the bits above `nbits` are the word's upper bits and are 0. -/
def decodeTableWord (nbits w : Nat) : Option Instr :=
  if nbits ≤ 32 ∧ w < 2 ^ nbits then
    match decodeWord (BitVec.ofNat 32 w) with
    | .ok i => some i
    | .error _ => none
  else none

/-- A format Z word: OP at bit 0, the rest 0 (R92). -/
def encodeZ (op : BitVec 8) : Word := (0#24 ++ op : BitVec (24 + 8))

/-- A format Q word: OP at bit 0, a at bit 8, b at bit 12, c at bit 16, d at bit 20 (R93). -/
def encodeQ (op : BitVec 8) (a b c d : Fin 16) : Word :=
  (0#8 ++ BitVec.ofFin (w := 4) d ++ BitVec.ofFin (w := 4) c ++ BitVec.ofFin (w := 4) b
    ++ BitVec.ofFin (w := 4) a ++ op : BitVec (8 + 4 + 4 + 4 + 4 + 8))

/-- A format N word: OP at bit 0, n cut to its 8-bit field at bit 8 (R94). -/
def encodeN (op : BitVec 8) (n : Nat) : Word :=
  (0#16 ++ BitVec.ofNat 8 n ++ op : BitVec (16 + 8 + 8))

/-- The word of a command (R91, R95); for a command that is not well formed the count is cut to its field. -/
def encode : Instr → Word
  | .nop => encodeZ 0x00
  | .config => encodeZ 0x01
  | .generate => encodeZ 0x02
  | .regenerate => encodeZ 0x03
  | .setctr => encodeZ 0x04
  | .clrerr => encodeZ 0x05
  | .loadinit => encodeZ 0x08
  | .qround a b c d => encodeQ 0x10 a b c d
  | .colround => encodeZ 0x11
  | .diaground => encodeZ 0x12
  | .dround => encodeZ 0x13
  | .perm n => encodeN 0x14 n
  | .blockfn n => encodeN 0x15 n

/-- The Match column of R95. -/
def Instr.rowMatch : Instr → Word
  | .nop => 0x00000000
  | .config => 0x00000001
  | .generate => 0x00000002
  | .regenerate => 0x00000003
  | .setctr => 0x00000004
  | .clrerr => 0x00000005
  | .loadinit => 0x00000008
  | .qround _ _ _ _ => 0x00000010
  | .colround => 0x00000011
  | .diaground => 0x00000012
  | .dround => 0x00000013
  | .perm _ => 0x00000014
  | .blockfn _ => 0x00000015

/-- The Mask column of R95. -/
def Instr.rowMask : Instr → Word
  | .nop => 0xFFFFFFFF
  | .config => 0xFFFFFFFF
  | .generate => 0xFFFFFFFF
  | .regenerate => 0xFFFFFFFF
  | .setctr => 0xFFFFFFFF
  | .clrerr => 0xFFFFFFFF
  | .loadinit => 0xFFFFFFFF
  | .qround _ _ _ _ => 0xFF0000FF
  | .colround => 0xFFFFFFFF
  | .diaground => 0xFFFFFFFF
  | .dround => 0xFFFFFFFF
  | .perm _ => 0xFFFF00FF
  | .blockfn _ => 0xFFFF00FF

/-- The opcode map of R95 as (Match, Mask) rows, in the table's order. -/
def opcodeRows : List (Word × Word) :=
  [(0x00000000, 0xFFFFFFFF), (0x00000001, 0xFFFFFFFF), (0x00000002, 0xFFFFFFFF), (0x00000003, 0xFFFFFFFF),
   (0x00000004, 0xFFFFFFFF), (0x00000005, 0xFFFFFFFF), (0x00000008, 0xFFFFFFFF), (0x00000010, 0xFF0000FF),
   (0x00000011, 0xFFFFFFFF), (0x00000012, 0xFFFFFFFF), (0x00000013, 0xFFFFFFFF), (0x00000014, 0xFFFF00FF),
   (0x00000015, 0xFFFF00FF)]

end Sys2Proof
end

