-- ==== Sys2Proof/Machine/Bits.lean ====
section
/-! DEFINITION. Bit-field and byte-order helpers (00_scope.md R6, 20_memory.md R66 to R69). -/

namespace Sys2Proof.Machine

/-- `rotl32(v, n)` for 0 < n < 32: `((v << n) | (v >> (32 - n))) mod 2^32` (R6). -/
def rotl32 (v : Word) (n : Nat) : Word := (v <<< n) ||| (v >>> (32 - n))

/-- Bits [31:0] of a 64-bit value, the word at the lower-numbered place (R66). -/
def lo32 (v : DWord) : Word := v.extractLsb' 0 32

/-- Bits [63:32] of a 64-bit value, the word at the higher-numbered place (R66). -/
def hi32 (v : DWord) : Word := v.extractLsb' 32 32

/-- `{hi, lo}`, "the concatenation whose high half is hi", `H * 2^32 + L` (R6). -/
def pair64 (hi lo : Word) : DWord := hi ++ lo

/-- The little-endian packing of four bytes, lowest first (R68). -/
def packWord (k0 k1 k2 k3 : Byte) : Word := k3 ++ k2 ++ k1 ++ k0

/-- The four bytes a word gives the host's byte stream, bits [7:0] first (R69). -/
def wordBytes (v : Word) : List Byte :=
  [v.extractLsb' 0 8, v.extractLsb' 8 8, v.extractLsb' 16 8, v.extractLsb' 24 8]

end Sys2Proof.Machine
end

