-- ==== Sys2Proof/Config.lean ====
section
/-! DEFINITION. What a build or a platform fixes and the spec leaves open (00_scope.md R5,
93_implementation_defined.md section 2). None of these constants has a body, so no proof can rest on a value
of theirs. LAT(cmd) is omitted: no rule reads it (70_reset_and_hazards.md R292). -/

namespace Sys2Proof

/-- HAS_V128: whether the 128-bit datapath is built. DESIGN CHOICE, safe (log 1): read only by
`Machine.State.reset`; every other definition reads the state's own `hasV128`. -/
opaque Config.hasV128 : Bool

/-- HAS_V256: whether the 256-bit datapath is built. DESIGN CHOICE, safe (log 1), as `Config.hasV128`. -/
opaque Config.hasV256 : Bool

/-- ENGINE_BASE divided by 0x200. DESIGN CHOICE, safe (log 2). -/
opaque Config.engineBlock : Nat

/-- ENGINE_BASE, the host bus address of the register window, "a multiple of 0x200" (20_memory.md R60). -/
def Config.engineBase : Nat := 0x200 * Config.engineBlock

end Sys2Proof
end

