-- ==== Sys2Proof/Machine/Words.lean ====
section
/-! DEFINITION. The engine's arrays of words as plain data (00_scope.md R8, 10_state.md R20, R28, R34): a row is
four words, a matrix four rows in row-major order, the output buffer four matrices, a key two rows. -/

namespace Sys2Proof.Machine

/-- Four like things in order. -/
structure Quad (α : Type) where
  e0 : α
  e1 : α
  e2 : α
  e3 : α
  deriving DecidableEq, Repr

/-- Element i. -/
def Quad.get {α : Type} (q : Quad α) (i : Fin 4) : α :=
  match i with
  | 0 => q.e0
  | 1 => q.e1
  | 2 => q.e2
  | 3 => q.e3

/-- Element i replaced by v. -/
def Quad.set {α : Type} (q : Quad α) (i : Fin 4) (v : α) : Quad α :=
  match i with
  | 0 => { q with e0 := v }
  | 1 => { q with e1 := v }
  | 2 => { q with e2 := v }
  | 3 => { q with e3 := v }

/-- The four values of f in order. -/
def Quad.ofFn {α : Type} (f : Fin 4 → α) : Quad α := ⟨f 0, f 1, f 2, f 3⟩

/-- f applied to each element. -/
def Quad.map {α β : Type} (f : α → β) (q : Quad α) : Quad β := ⟨f q.e0, f q.e1, f q.e2, f q.e3⟩

/-- f applied element by element. -/
def Quad.zip {α β γ : Type} (f : α → β → γ) (p : Quad α) (q : Quad β) : Quad γ :=
  ⟨f p.e0 q.e0, f p.e1 q.e1, f p.e2 q.e2, f p.e3 q.e3⟩

/-- A row of a ChaCha matrix: `x[4r], x[4r+1], x[4r+2], x[4r+3]` (R8). -/
abbrev Row := Quad Word

/-- A ChaCha matrix, "16 words x[0..15] read as a 4×4 matrix in row-major order" (R8); also a block. -/
abbrev Mat := Quad Row

/-- The output buffer OUT: four blocks of 16 words (10_state.md R34). -/
abbrev Buffer := Quad Mat

/-- A key: words 0..3 and words 4..7 (10_state.md R28), rows 1 and 2 of an initial matrix. -/
structure Key where
  lower : Row
  upper : Row
  deriving DecidableEq, Repr

/-- Four equal words. -/
def Row.fill (v : Word) : Row := ⟨v, v, v, v⟩

/-- The all-zero matrix. -/
def Mat.zero : Mat := ⟨Row.fill 0, Row.fill 0, Row.fill 0, Row.fill 0⟩

/-- The all-zero buffer. -/
def Buffer.zero : Buffer := ⟨Mat.zero, Mat.zero, Mat.zero, Mat.zero⟩

/-- The all-zero key. -/
def Key.zero : Key := ⟨Row.fill 0, Row.fill 0⟩

/-- The row of matrix word i, i div 4 (R8). -/
def rowOf (i : Fin 16) : Fin 4 := ⟨i.val / 4, by omega⟩

/-- The lane of matrix word i, i mod 4 (R8). -/
def laneOf (i : Fin 16) : Fin 4 := ⟨i.val % 4, by omega⟩

/-- Matrix word x[i]. -/
def Mat.word (x : Mat) (i : Fin 16) : Word := (x.get (rowOf i)).get (laneOf i)

/-- The matrix with word i replaced by v. -/
def Mat.setWord (x : Mat) (i : Fin 16) (v : Word) : Mat :=
  Quad.set x (rowOf i) ((x.get (rowOf i)).set (laneOf i) v)

/-- The matrix whose word i is f i. -/
def Mat.ofFn (f : Fin 16 → Word) : Mat :=
  ⟨⟨f 0, f 1, f 2, f 3⟩, ⟨f 4, f 5, f 6, f 7⟩, ⟨f 8, f 9, f 10, f 11⟩, ⟨f 12, f 13, f 14, f 15⟩⟩

/-- OUT[i], that is word i mod 16 of block i div 16 (10_state.md R34). -/
def Buffer.word (o : Buffer) (i : Fin 64) : Word :=
  Mat.word (o.get ⟨i.val / 16, by omega⟩) ⟨i.val % 16, by omega⟩

/-- KEY[i]. -/
def Key.word (k : Key) (i : Fin 8) : Word :=
  if i.val < 4 then k.lower.get ⟨i.val % 4, by omega⟩ else k.upper.get ⟨i.val % 4, by omega⟩

/-- The key with word i replaced by v. -/
def Key.setWord (k : Key) (i : Fin 8) (v : Word) : Key :=
  if i.val < 4 then { k with lower := k.lower.set ⟨i.val % 4, by omega⟩ v }
  else { k with upper := k.upper.set ⟨i.val % 4, by omega⟩ v }

end Sys2Proof.Machine
end

