-- ==== Sys2Proof/Machine/State.lean ====
section
/-! DEFINITION. The state of the engine as plain data, what the host can do to it, and the state after reset
(10_state.md, 70_reset_and_hazards.md R281). -/

namespace Sys2Proof.Machine

/-- The width of a host access: 32 bits is the one legal width, the others are those R61 names. -/
inductive BusWidth where
  | bits8
  | bits16
  | bits32
  | bits64
  | burst
  deriving DecidableEq, Repr

/-- Which bus master makes an access: the one that owns the window, or any other (20_memory.md R72). -/
inductive BusMaster where
  | owner
  | other
  deriving DecidableEq, Repr

/-- MemRead, or MemWrite with its word (00_scope.md R7). -/
inductive BusOp where
  | read
  | write (v : Word)
  deriving DecidableEq, Repr

/-- One host access. `offset` is its host bus address less ENGINE_BASE, so every address is some offset and
no claim needs the value of ENGINE_BASE (DESIGN CHOICE, safe, log 2). -/
structure HostAccess where
  master : BusMaster
  width : BusWidth
  offset : Int
  op : BusOp
  deriving DecidableEq, Repr

/-- What the outside world can do to the engine: an access, a level of the reset input
(70_reset_and_hazards.md R280), a loss of power (60_exceptions.md R264). -/
inductive HostEvent where
  | access (a : HostAccess)
  | resetLine (asserted : Bool)
  | powerLoss
  deriving DecidableEq, Repr

/-- Whether the engine runs, is held in reset (R280), or has lost power and waits for a reset (R264). -/
inductive Condition where
  | running
  | resetAsserted
  | powerLost
  deriving DecidableEq, Repr

/-- The closed set of datapaths (42_backends.md R190). -/
inductive Backend where
  | sw
  | v128
  | v256
  deriving DecidableEq, Repr

/-- The whole state. The rule after each field names it. -/
structure State where
  /-- CAPS bit 1, HAS_V128, constant for a build (R23). -/
  hasV128 : Bool
  /-- CAPS bit 2, HAS_V256, constant for a build (R23). -/
  hasV256 : Bool
  /-- CTRL.BACKEND_FORCE; the other bits of CTRL read 0 (R24). -/
  backendForce : BitVec 2
  /-- STATUS.CONFIGURED (R25, R35). -/
  configured : Bool
  /-- BK, the bound backend, read as STATUS.BACKEND (R25, R35). -/
  backend : Option Backend
  /-- STATUS.ERRCODE (R25, R35). -/
  errCode : BitVec 8
  /-- ROUNDS, staged (R27). -/
  rounds : Word
  /-- KEY0..KEY7, staged (R28). -/
  key : Key
  /-- STREAM_LO, staged (R29). -/
  streamLo : Word
  /-- STREAM_HI, staged (R29). -/
  streamHi : Word
  /-- CTRIN_LO, staged (R30). -/
  ctrinLo : Word
  /-- CTRIN_HI, staged (R30). -/
  ctrinHi : Word
  /-- C, the block counter, read as CTR_LO and CTR_HI (R31, R38). -/
  counter : DWord
  /-- AK, the active key (R35). -/
  activeKey : Key
  /-- AS, the active stream id (R35). -/
  activeStream : DWord
  /-- AR, the active round parameter, read as ACT_ROUNDS (R32, R35; its width of 32 bits is a DESIGN CHOICE,
  safe, log 11). -/
  activeRounds : Word
  /-- W, the work matrix, the general registers (R20). -/
  w : Mat
  /-- OUT, the output buffer (R34). -/
  out : Buffer
  /-- The reset input's and the power's condition (R280, R264). -/
  condition : Condition
  /-- The host's accesses and events not yet performed, in issue order (R73; DESIGN CHOICE, safe, log 3). -/
  bus : List HostEvent
  /-- The words answered to the host's reads, oldest first (R171; DESIGN CHOICE, safe, log 4). -/
  replies : List Word
  deriving DecidableEq, Repr

/-- Why a run stops in a faulted state. The first four are the bus errors of 20_memory.md R61 to R63, "a fault of
the host program" (60_exceptions.md R254); which of them is named when several apply is a DESIGN CHOICE, safe
(log 5). All are raised by `selectReg` and `busWrite` of Machine/Transact.lean, and all are safe. -/
inductive Fault where
  /-- R61: an access that is not 32 bits wide. Safe: the spec makes it a fault. -/
  | busWidth
  /-- R61: an address that is not a multiple of 4. Safe: the spec makes it a fault. -/
  | busMisaligned
  /-- R62, R44: an unmapped offset of the window. Safe: the spec makes it a fault. -/
  | busUnmapped
  /-- R63: a write to a read-only register. Safe: the spec makes it a fault. -/
  | busReadOnly
  /-- An address outside the window, which does "not belong to the engine" (10_state.md section 1, log 6).
  Safe: the engine does nothing at such an address, and the model stops. -/
  | outsideWindow
  deriving DecidableEq, Repr

/-- Why the model gives no meaning. No command raises any of these. -/
inductive Refusal where
  /-- No command raises it: every arm of exec has its meaning. Safe. -/
  | notModelled (mnemonic : String)
  /-- R72: an access by a second master, raised by `busAccess`. Safe: "a model refuses a program that has
  them" (log 7). -/
  | secondMaster
  /-- R280: an access while reset is asserted, raised by `busAccess`. Safe: "outside this spec" (log 8). -/
  | accessDuringReset
  /-- R264: an access after power loss and before a reset, raised by `busAccess`. Safe: only reset defines the
  state (log 9). -/
  | accessAfterPowerLoss
  /-- R235: a cursor offset of 16 or more, raised by the host function `seek` only. Safe: "host programming
  error: refused" (log 14). -/
  | seekOffset
  deriving DecidableEq, Repr

/-- The value of every piece of state when reset is deasserted (R281), for a build with the given vector
datapaths. `bus` and `replies` are the model's own and start empty (DESIGN CHOICE, log 3, log 4). -/
def State.resetOf (hasV128 hasV256 : Bool) : State where
  hasV128 := hasV128
  hasV256 := hasV256
  backendForce := 0
  configured := false
  backend := none
  errCode := 0
  rounds := 0x0000000A
  key := Key.zero
  streamLo := 0
  streamHi := 0
  ctrinLo := 0
  ctrinHi := 0
  counter := 0
  activeKey := Key.zero
  activeStream := 0
  activeRounds := 0
  w := Mat.zero
  out := Buffer.zero
  condition := .running
  bus := []
  replies := []

/-- The machine right after reset (R281), of the build this engine is. -/
def State.reset : State := State.resetOf Config.hasV128 Config.hasV256

end Sys2Proof.Machine
end

