-- ==== Sys2Proof/Machine/Flags.lean ====
section
/-! DEFINITION. The flags of the engine, which are the fields of STATUS (10_state.md R25, R41), and the other
words composed of fields: CAPS (R23) and CTRL (R24). No arithmetic command writes a flag. -/

namespace Sys2Proof.Machine

/-- STATUS[2:1]: "0 = none bound, 1 = SW, 2 = V128, 3 = V256" (R25). -/
def backendField : Option Backend → Nat
  | none => 0
  | some .sw => 1
  | some .v128 => 2
  | some .v256 => 3

/-- STATUS.ERR, "equal to 1 exactly when ERRCODE is not 0" (R25). -/
def errFlag (s : State) : Bool := s.errCode != 0

/-- The STATUS word: CONFIGURED at bit 0, BACKEND at [2:1], ERR at 3, ERRCODE at [15:8], the rest 0 (R25). -/
def statusWord (s : State) : Word :=
  BitVec.ofNat 32 (s.configured.toNat + 2 * backendField s.backend + 2 ^ 3 * (errFlag s).toNat
    + 2 ^ 8 * s.errCode.toNat)

/-- The CAPS word: SW = 1 at bit 0, V128 at bit 1, V256 at bit 2, the rest 0 (R23). -/
def capsWord (s : State) : Word := BitVec.ofNat 32 (1 + 2 * s.hasV128.toNat + 2 ^ 2 * s.hasV256.toNat)

/-- The CTRL word: BACKEND_FORCE at [1:0], the rest 0 (R24). -/
def ctrlWord (s : State) : Word := BitVec.ofNat 32 s.backendForce.toNat

end Sys2Proof.Machine
end

