-- ==== Sys2Proof/Machine/RegMap.lean ====
section
/-! DEFINITION. The register map (10_state.md section 1): names, offsets, access rights. -/

namespace Sys2Proof.Machine

/-- The registers of the window. -/
inductive Reg where
  | id
  | caps
  | ctrl
  | status
  | cmd
  | rounds
  | key (i : Fin 8)
  | streamLo
  | streamHi
  | ctrinLo
  | ctrinHi
  | ctrLo
  | ctrHi
  | actRounds
  | w (i : Fin 16)
  | out (i : Fin 64)
  deriving DecidableEq, Repr

/-- RO, RW or WO (10_state.md section 1). -/
inductive RegAccess where
  | readOnly
  | readWrite
  | writeOnly
  deriving DecidableEq, Repr

/-- The Access column of the map. -/
def Reg.access : Reg → RegAccess
  | .id => .readOnly
  | .caps => .readOnly
  | .ctrl => .readWrite
  | .status => .readOnly
  | .cmd => .writeOnly
  | .rounds => .readWrite
  | .key _ => .readWrite
  | .streamLo => .readWrite
  | .streamHi => .readWrite
  | .ctrinLo => .readWrite
  | .ctrinHi => .readWrite
  | .ctrLo => .readOnly
  | .ctrHi => .readOnly
  | .actRounds => .readOnly
  | .w _ => .readWrite
  | .out _ => .readOnly

/-- The Offset column of the map, in bytes from ENGINE_BASE. -/
def Reg.offset : Reg → Nat
  | .id => 0x000
  | .caps => 0x004
  | .ctrl => 0x008
  | .status => 0x00C
  | .cmd => 0x010
  | .rounds => 0x014
  | .key i => 0x020 + 4 * i.val
  | .streamLo => 0x040
  | .streamHi => 0x044
  | .ctrinLo => 0x048
  | .ctrinHi => 0x04C
  | .ctrLo => 0x050
  | .ctrHi => 0x054
  | .actRounds => 0x058
  | .w i => 0x080 + 4 * i.val
  | .out i => 0x100 + 4 * i.val

/-- Which register stands at a byte offset; none at an offset the map calls unmapped (R44), and none at one
that is no multiple of 4. -/
def Reg.ofOffset (o : Nat) : Option Reg :=
  if o % 4 ≠ 0 then none
  else if o = 0x000 then some .id
  else if o = 0x004 then some .caps
  else if o = 0x008 then some .ctrl
  else if o = 0x00C then some .status
  else if o = 0x010 then some .cmd
  else if o = 0x014 then some .rounds
  else if h : 0x020 ≤ o ∧ o < 0x040 then some (.key ⟨(o - 0x020) / 4, by omega⟩)
  else if o = 0x040 then some .streamLo
  else if o = 0x044 then some .streamHi
  else if o = 0x048 then some .ctrinLo
  else if o = 0x04C then some .ctrinHi
  else if o = 0x050 then some .ctrLo
  else if o = 0x054 then some .ctrHi
  else if o = 0x058 then some .actRounds
  else if h : 0x080 ≤ o ∧ o < 0x0C0 then some (.w ⟨(o - 0x080) / 4, by omega⟩)
  else if h : 0x100 ≤ o ∧ o < 0x200 then some (.out ⟨(o - 0x100) / 4, by omega⟩)
  else none

end Sys2Proof.Machine
end

