-- ==== Sys2Proof/Machine/Ops.lean ====
section
/-! DEFINITION. The named operations on the state: one setter per piece of state a command or an access
writes, reading and storing a register of the window, the rejection of a command (the engine's one shared
error operation, 60_exceptions.md R252), the reset input (70_reset_and_hazards.md R280) and a loss of power
(60_exceptions.md R264). -/

namespace Sys2Proof.Machine

/-- ERRCODE <- v. -/
def State.setErrCode (s : State) (v : BitVec 8) : State := { s with errCode := v }

/-- W <- x. -/
def State.setW (s : State) (x : Mat) : State := { s with w := x }

/-- OUT <- o. -/
def State.setOut (s : State) (o : Buffer) : State := { s with out := o }

/-- C <- c. -/
def State.setCounter (s : State) (c : DWord) : State := { s with counter := c }

/-- CTRL.BACKEND_FORCE <- v. -/
def State.setBackendForce (s : State) (v : BitVec 2) : State := { s with backendForce := v }

/-- ROUNDS <- v. -/
def State.setRounds (s : State) (v : Word) : State := { s with rounds := v }

/-- KEY[0..7] <- k. -/
def State.setKey (s : State) (k : Key) : State := { s with key := k }

/-- STREAM_LO <- v. -/
def State.setStreamLo (s : State) (v : Word) : State := { s with streamLo := v }

/-- STREAM_HI <- v. -/
def State.setStreamHi (s : State) (v : Word) : State := { s with streamHi := v }

/-- CTRIN_LO <- v. -/
def State.setCtrinLo (s : State) (v : Word) : State := { s with ctrinLo := v }

/-- CTRIN_HI <- v. -/
def State.setCtrinHi (s : State) (v : Word) : State := { s with ctrinHi := v }

/-- AK <- k, AS <- sid, AR <- r, BK <- b, CONFIGURED <- 1: the latching part of CONFIG (41_keystream.md R163). -/
def State.setActive (s : State) (k : Key) (sid : DWord) (r : Word) (b : Backend) : State :=
  { s with activeKey := k, activeStream := sid, activeRounds := r, backend := some b, configured := true }

/-- The condition of the reset input and the power. -/
def State.setCondition (s : State) (c : Condition) : State := { s with condition := c }

/-- The host's pending events. -/
def State.setBus (s : State) (b : List HostEvent) : State := { s with bus := b }

/-- The bus answers a read with v. -/
def State.reply (s : State) (v : Word) : State := { s with replies := s.replies ++ [v] }

/-- A rejected command: "no effect but `ERRCODE <- code`" (R252); an earlier code is overwritten (R257). -/
def reject (e : CmdError) (s : State) : State := s.setErrCode e.code

/-- The word a host read of a register returns (10_state.md R22 to R34; CMD reads 0, R26). -/
def readReg (r : Reg) (s : State) : Word :=
  match r with
  | .id => 0x43433230
  | .caps => capsWord s
  | .ctrl => ctrlWord s
  | .status => statusWord s
  | .cmd => 0
  | .rounds => s.rounds
  | .key i => s.key.word i
  | .streamLo => s.streamLo
  | .streamHi => s.streamHi
  | .ctrinLo => s.ctrinLo
  | .ctrinHi => s.ctrinHi
  | .ctrLo => lo32 s.counter
  | .ctrHi => hi32 s.counter
  | .actRounds => s.activeRounds
  | .w i => Mat.word s.w i
  | .out i => Buffer.word s.out i

/-- A host write that stores: the word goes into a read-write register, CTRL keeping bits [1:0] only (R24,
R64). A register that is not read-write stores nothing here: its writes end as bus errors (R63), and a write to
CMD executes (R26), before this is reached. -/
def storeReg (r : Reg) (v : Word) (s : State) : State :=
  match r with
  | .ctrl => s.setBackendForce (v.extractLsb' 0 2)
  | .rounds => s.setRounds v
  | .key i => s.setKey (s.key.setWord i v)
  | .streamLo => s.setStreamLo v
  | .streamHi => s.setStreamHi v
  | .ctrinLo => s.setCtrinLo v
  | .ctrinHi => s.setCtrinHi v
  | .w i => s.setW (Mat.setWord s.w i v)
  | .id => s
  | .caps => s
  | .status => s
  | .cmd => s
  | .ctrLo => s
  | .ctrHi => s
  | .actRounds => s
  | .out _ => s

/-- The reset values over any state (R281): everything but the build's CAPS bits, the host's pending events and
the words it has already read. -/
def State.resetRegs (s : State) : State :=
  { State.resetOf s.hasV128 s.hasV256 with bus := s.bus, replies := s.replies }

/-- A level of the reset input (R280). Asserted, the engine is held and its state kept (unobservable: every
access is refused; DESIGN CHOICE, safe, log 8). Deasserted after assertion, every piece of state holds its reset
value; deasserted with no assertion before it, nothing changes. -/
def resetInput (asserted : Bool) (s : State) : State :=
  if asserted then s.setCondition .resetAsserted
  else
    match s.condition with
    | .resetAsserted => s.resetRegs
    | .running => s
    | .powerLost => s

/-- A loss of power (60_exceptions.md R264). After it only reset defines the state, so accesses are refused until a
reset (log 9). While reset is asserted it changes nothing: the deassertion that follows gives every piece of state its
reset value "whatever it held before" (R280, log 8). -/
def losePower (s : State) : State :=
  match s.condition with
  | .resetAsserted => s
  | .running => s.setCondition .powerLost
  | .powerLost => s

end Sys2Proof.Machine
end

