-- ==== Sys2Proof/Machine/Control.lean ====
section
/-! DEFINITION. The control commands (43_control.md). -/

namespace Sys2Proof.Machine

/-- NOP (R220): nothing; it does not clear ERRCODE. -/
def execNop (s : State) : Host.Outcome State Fault Refusal := .next s

/-- CLRERR (R221): `ERRCODE <- 0`. -/
def execClrerr (s : State) : Host.Outcome State Fault Refusal := .next (s.setErrCode 0)

end Sys2Proof.Machine
end

