-- ==== Sys2Proof/Machine/Network.lean ====
section
/-! DEFINITION. The pure functions of the permutation core (40_permutation_core.md section 2) and of the
keystream (41_keystream.md section 1). All are total and stateless (R131). -/

namespace Sys2Proof.Machine

/-- The three word operations of R120, on words or on vectors of lanes (42_backends.md R194). -/
structure LaneOps (α : Type) where
  add : α → α → α
  xor : α → α → α
  rotl : α → Nat → α

/-- The four lines of the quarter round (R121), over any lanes: QR on words, QRV on vectors (R194). -/
def quarterLines {α : Type} (o : LaneOps α) (a0 b0 c0 d0 : α) : Quad α :=
  let a1 := o.add a0 b0
  let d1 := o.rotl (o.xor d0 a1) 16
  let c1 := o.add c0 d1
  let b1 := o.rotl (o.xor b0 c1) 12
  let a2 := o.add a1 b1
  let d2 := o.rotl (o.xor d1 a2) 8
  let c2 := o.add c1 d2
  let b2 := o.rotl (o.xor b1 c2) 7
  ⟨a2, b2, c2, d2⟩

/-- Addition modulo 2^32, exclusive or, left rotation (R120). -/
def wordOps : LaneOps Word where
  add := fun a b => a + b
  xor := fun a b => a ^^^ b
  rotl := rotl32

/-- `QR(A, B, C, D)` (R121); the result is (A', B', C', D') in order. -/
def qr (a b c d : Word) : Quad Word := quarterLines wordOps a b c d

/-- `QRAT(x, a, b, c, d)` (R122): the four words are read before any is written. -/
def qrAt (x : Mat) (a b c d : Fin 16) : Mat :=
  let g := qr (Mat.word x a) (Mat.word x b) (Mat.word x c) (Mat.word x d)
  Mat.setWord (Mat.setWord (Mat.setWord (Mat.setWord x a g.e0) b g.e1) c g.e2) d g.e3

/-- The column round `COL(x)` (R123). -/
def col (x : Mat) : Mat :=
  qrAt (qrAt (qrAt (qrAt x 0 4 8 12) 1 5 9 13) 2 6 10 14) 3 7 11 15

/-- The diagonal round `DIAG(x)` (R124). -/
def diag (x : Mat) : Mat :=
  qrAt (qrAt (qrAt (qrAt x 0 5 10 15) 1 6 11 12) 2 7 8 13) 3 4 9 14

/-- The double round `DR(x) = DIAG(COL(x))` (R125). -/
def dr (x : Mat) : Mat := diag (col x)

/-- The n-fold permutation `PERM_n(x)` (R126). -/
def permN : Nat → Mat → Mat
  | 0, x => x
  | n + 1, x => permN n (dr x)

/-- Row 0 of an initial matrix, "expand 32-byte k" (R127). PRESUMED by the spec itself, from general knowledge
confirmed by its four scenario words; unsafe if the words were wrong (log 15). -/
def sigma : Row := ⟨0x61707865, 0x3320646e, 0x79622d32, 0x6b206574⟩

/-- Row 3 of an initial matrix: the counter and the stream id, low words first (R128). -/
def counterRow (c sid : DWord) : Row := ⟨lo32 c, hi32 c, lo32 sid, hi32 sid⟩

/-- `INIT(K, c, s)` (R128). -/
def initMat (k : Key) (c sid : DWord) : Mat := ⟨sigma, k.lower, k.upper, counterRow c sid⟩

/-- Word by word addition modulo 2^32 of two matrices. -/
def addMat (x y : Mat) : Mat := Quad.zip (Quad.zip (fun u v : Word => u + v)) x y

/-- The feed-forward form `FF(x0, n)[i] = x0[i] + PERM_n(x0)[i]` (R129). -/
def ff (x0 : Mat) (n : Nat) : Mat := addMat x0 (permN n x0)

/-- The block function `BLOCK(K, c, s, R)` (R129, R130). -/
def block (k : Key) (c sid : DWord) (r : Nat) : Mat := ff (initMat k c sid) r

/-- The buffer `BUF(K, s, R, c)` (R161): blocks c, c + 1, c + 2, c + 3, each counter computed modulo 2^64
before it is split into words (R162). -/
def buf (k : Key) (sid : DWord) (r : Nat) (c : DWord) : Buffer :=
  ⟨block k c sid r, block k (c + 1) sid r, block k (c + 2) sid r, block k (c + 3) sid r⟩

/-- The keystream word at a position P = 16 b + j, with b taken modulo 2^64 (R160: "periodic with period 2^64
blocks"). -/
def keystream (k : Key) (sid : DWord) (r : Nat) (p : Nat) : Word :=
  Mat.word (block k (BitVec.ofNat 64 (p / 16)) sid r) ⟨p % 16, by omega⟩

end Sys2Proof.Machine
end

