-- ==== Sys2Proof/Machine/Backends.lean ====
section
/-! DEFINITION. The three datapaths and the selection of one (42_backends.md). Their row vectors are not state
(10_state.md R42): each datapath is a function from the active configuration and the counter to the buffer. -/

namespace Sys2Proof.Machine

/-- `SELECT(force, has128, has256)` (R191); none is ABSENT. -/
def select (force : BitVec 2) (has128 has256 : Bool) : Option Backend :=
  if force = 0 then some (if has256 then .v256 else if has128 then .v128 else .sw)
  else if force = 1 then some .sw
  else if force = 2 then (if has128 then some .v128 else none)
  else (if has256 then some .v256 else none)

/-! The software datapath (R193). -/

/-- "repeat AR times: x <- COL(x); x <- DIAG(x)". -/
def swRounds : Nat → Mat → Mat
  | 0, x => x
  | n + 1, x => swRounds n (diag (col x))

/-- Block k of an invocation: `OUT[16k + j] <- x[j] + x0[j]`. -/
def swBlock (k : Key) (sid : DWord) (r : Nat) (c : DWord) : Mat :=
  let x0 := initMat k c sid
  let x := swRounds r x0
  Mat.ofFn fun j => Mat.word x j + Mat.word x0 j

/-- One SW invocation fills all four blocks (R193, R201). -/
def swFill (k : Key) (sid : DWord) (r : Nat) (c : DWord) : Buffer :=
  Quad.ofFn fun b => swBlock k sid r (c + BitVec.ofNat 64 b.val)

/-! The 128-bit datapath (R194 to R196, R199): a vector is a `Row` of four lanes. -/

/-- vadd, vxor and vrotl on four lanes (R194). -/
def ops4 : LaneOps Row where
  add := Quad.zip fun u v => u + v
  xor := Quad.zip fun u v => u ^^^ v
  rotl := fun v n => v.map fun u => rotl32 u n

/-- `vshuf(v, r)[i] = v[(i + r) mod 4]` within a half (R194). -/
def vshuf4 (v : Row) (r : Nat) : Row := Quad.ofFn fun i => v.get ⟨(i.val + r) % 4, by omega⟩

/-- The four row vectors a, b, c, d of a datapath. -/
structure Rows (α : Type) where
  a : α
  b : α
  c : α
  d : α
  deriving DecidableEq, Repr

/-- One vector double round (R196), over the lanes and the lane rotation of either datapath. -/
def vectorDouble {α : Type} (o : LaneOps α) (shuf : α → Nat → α) (x : Rows α) : Rows α :=
  let p := quarterLines o x.a x.b x.c x.d
  let q := quarterLines o p.e0 (shuf p.e1 1) (shuf p.e2 2) (shuf p.e3 3)
  ⟨q.e0, shuf q.e1 3, shuf q.e2 2, shuf q.e3 1⟩

/-- The vector double round applied n times (R195, R197). -/
def vectorRounds {α : Type} (o : LaneOps α) (shuf : α → Nat → α) : Nat → Rows α → Rows α
  | 0, x => x
  | n + 1, x => vectorRounds o shuf n (vectorDouble o shuf x)

/-- The saved rows added lane by lane (R199). -/
def addRows {α : Type} (o : LaneOps α) (x x0 : Rows α) : Rows α :=
  ⟨o.add x.a x0.a, o.add x.b x0.b, o.add x.c x0.c, o.add x.d x0.d⟩

/-- The row vectors of invocation k, whose counter is c = C + k (R195). -/
def v128Rows (k : Key) (sid c : DWord) : Rows Row := ⟨sigma, k.lower, k.upper, counterRow c sid⟩

/-- One V128 invocation (R195, R199): the block of counter c, its word 4r + i in lane i of row r. -/
def v128Block (k : Key) (sid : DWord) (r : Nat) (c : DWord) : Mat :=
  let x0 := v128Rows k sid c
  let y := addRows ops4 (vectorRounds ops4 vshuf4 r x0) x0
  ⟨y.a, y.b, y.c, y.d⟩

/-- Four V128 invocations fill the buffer (R195, R201). -/
def v128Fill (k : Key) (sid : DWord) (r : Nat) (c : DWord) : Buffer :=
  Quad.ofFn fun b => v128Block k sid r (c + BitVec.ofNat 64 b.val)

/-! The 256-bit datapath (R194, R197 to R199): a vector is two halves of four lanes. -/

/-- Eight lanes: lanes 0 to 3 in half 0, lanes 4 to 7 in half 1 (R194). -/
structure Vec8 where
  half0 : Row
  half1 : Row
  deriving DecidableEq, Repr

/-- vadd, vxor and vrotl on eight lanes (R194). -/
def ops8 : LaneOps Vec8 where
  add := fun u v => ⟨ops4.add u.half0 v.half0, ops4.add u.half1 v.half1⟩
  xor := fun u v => ⟨ops4.xor u.half0 v.half0, ops4.xor u.half1 v.half1⟩
  rotl := fun v n => ⟨ops4.rotl v.half0 n, ops4.rotl v.half1 n⟩

/-- vshuf on eight lanes: within each half, no word moves between halves (R194). -/
def vshuf8 (v : Vec8) (r : Nat) : Vec8 := ⟨vshuf4 v.half0 r, vshuf4 v.half1 r⟩

/-- The row vectors of invocation m (R197, R198): half h holds block `t_h = C + (2m + h)`, its counter computed in
64-bit arithmetic before it is split into lanes. That half 0 holds the lower block is the spec's choice. -/
def v256Rows (k : Key) (sid c : DWord) (m : Nat) : Rows Vec8 :=
  let t0 := c + BitVec.ofNat 64 (2 * m)
  let t1 := c + BitVec.ofNat 64 (2 * m + 1)
  ⟨⟨sigma, sigma⟩, ⟨k.lower, k.lower⟩, ⟨k.upper, k.upper⟩, ⟨counterRow t0 sid, counterRow t1 sid⟩⟩

/-- One V256 invocation (R197, R199). -/
def v256Pair (k : Key) (sid : DWord) (r : Nat) (c : DWord) (m : Nat) : Rows Vec8 :=
  let x0 := v256Rows k sid c m
  addRows ops8 (vectorRounds ops8 vshuf8 r x0) x0

/-- Half 0 of four rows as a block. -/
def half0Block (x : Rows Vec8) : Mat := ⟨x.a.half0, x.b.half0, x.c.half0, x.d.half0⟩

/-- Half 1 of four rows as a block. -/
def half1Block (x : Rows Vec8) : Mat := ⟨x.a.half1, x.b.half1, x.c.half1, x.d.half1⟩

/-- Two V256 invocations fill the buffer: half h of invocation m is block 2m + h (R199, R201). -/
def v256Fill (k : Key) (sid : DWord) (r : Nat) (c : DWord) : Buffer :=
  let p := v256Pair k sid r c 0
  let q := v256Pair k sid r c 1
  ⟨half0Block p, half1Block p, half0Block q, half1Block q⟩

/-- The buffer as the bound datapath computes it: "every GENERATE and REGENERATE runs on BK" (R190). With no
backend bound, which no run reaches in a configured engine, the software datapath answers, "always available"
(DESIGN CHOICE, safe, log 10). -/
def fillBuffer (bk : Option Backend) (k : Key) (sid : DWord) (r : Nat) (c : DWord) : Buffer :=
  match bk with
  | none => swFill k sid r c
  | some .sw => swFill k sid r c
  | some .v128 => v128Fill k sid r c
  | some .v256 => v256Fill k sid r c

end Sys2Proof.Machine
end

