-- ==== Sys2Proof/Machine/Operands.lean ====
section
/-! DEFINITION. What commands read before they act: the operand-value checks of 30_encoding.md R98, the need of
an active configuration, CONFIG's checks in their order, and the 64-bit staged values. -/

namespace Sys2Proof.Machine

/-- Two of QROUND's indices are equal (R98, R132). -/
def aliased (a b c d : Fin 16) : Bool :=
  a == b || a == c || a == d || b == c || b == d || c == d

/-- `{STREAM_HI, STREAM_LO}` (10_state.md R29). -/
def stagedStream (s : State) : DWord := pair64 s.streamHi s.streamLo

/-- `{CTRIN_HI, CTRIN_LO}` (10_state.md R30). -/
def stagedCounter (s : State) : DWord := pair64 s.ctrinHi s.ctrinLo

/-- CONFIG's checks in the order of 41_keystream.md R163: ROUNDS_ZERO, ROUNDS_UNSUPPORTED, BACKEND_ABSENT; else
the backend to bind. -/
def configCheck (s : State) : Except CmdError Backend :=
  if s.rounds = 0 then .error .roundsZero
  else if ¬ (s.rounds = 4 ∨ s.rounds = 6 ∨ s.rounds = 10) then .error .roundsUnsupported
  else
    match select s.backendForce s.hasV128 s.hasV256 with
    | none => .error .backendAbsent
    | some b => .ok b

/-- A command that needs an active configuration: rejected NOT_CONFIGURED without one, else its effect. -/
def ifConfigured (s : State) (effect : State → State) : State :=
  if s.configured then effect s else reject .notConfigured s

/-- A command with a count: rejected COUNT_ZERO when it is 0, else its effect. -/
def ifCounted (n : Nat) (s : State) (effect : State → State) : State :=
  if n = 0 then reject .countZero s else effect s

end Sys2Proof.Machine
end

