-- ==== Sys2Proof/Machine/Keystream.lean ====
section
/-! DEFINITION. The keystream commands (41_keystream.md section 2). -/

namespace Sys2Proof.Machine

/-- OUT <- the buffer at C of the active configuration, computed by the bound datapath (R165, 42_backends.md
R190). -/
def fillOut (s : State) : State :=
  s.setOut (fillBuffer s.backend s.activeKey s.activeStream s.activeRounds.toNat s.counter)

/-- CONFIG (R163): the checks, then latch AK, AS, AR, bind BK, `C <- 0`, `OUT <- 0`, `CONFIGURED <- 1`. -/
def execConfig (s : State) : Host.Outcome State Fault Refusal :=
  match configCheck s with
  | .error e => .next (reject e s)
  | .ok b => .next (((s.setActive s.key (stagedStream s) s.rounds b).setCounter 0).setOut Buffer.zero)

/-- GENERATE (R165): fill OUT at C, then `C <- C + 4`. -/
def execGenerate (s : State) : Host.Outcome State Fault Refusal :=
  .next (ifConfigured s fun t => (fillOut t).setCounter (t.counter + 4))

/-- REGENERATE (R166): fill OUT at C, C unchanged. -/
def execRegenerate (s : State) : Host.Outcome State Fault Refusal :=
  .next (ifConfigured s fillOut)

/-- SETCTR (R167): `C <- {CTRIN_HI, CTRIN_LO}`; OUT is not recomputed. -/
def execSetctr (s : State) : Host.Outcome State Fault Refusal :=
  .next (ifConfigured s fun t => t.setCounter (stagedCounter t))

end Sys2Proof.Machine
end

