-- ==== Sys2Proof/Machine/Permutation.lean ====
section
/-! DEFINITION. The work-matrix commands (40_permutation_core.md section 3). None writes a flag. -/

namespace Sys2Proof.Machine

/-- QROUND a, b, c, d (R132): QR_ALIAS when two indices are equal, else the quarter round on W. -/
def execQround (a b c d : Fin 16) (s : State) : Host.Outcome State Fault Refusal :=
  .next (if aliased a b c d then reject .qrAlias s else s.setW (qrAt s.w a b c d))

/-- COLROUND (R133): `W <- COL(W)`. -/
def execColround (s : State) : Host.Outcome State Fault Refusal := .next (s.setW (col s.w))

/-- DIAGROUND (R134): `W <- DIAG(W)`. -/
def execDiaground (s : State) : Host.Outcome State Fault Refusal := .next (s.setW (diag s.w))

/-- DROUND (R135): `W <- DR(W)`. -/
def execDround (s : State) : Host.Outcome State Fault Refusal := .next (s.setW (dr s.w))

/-- PERM n (R136): COUNT_ZERO when n = 0, else `W <- PERM_n(W)`, no feed-forward. -/
def execPerm (n : Nat) (s : State) : Host.Outcome State Fault Refusal :=
  .next (ifCounted n s fun t => t.setW (permN n t.w))

/-- BLOCKFN n (R137): COUNT_ZERO when n = 0, else `W <- FF(W, n)`. -/
def execBlockfn (n : Nat) (s : State) : Host.Outcome State Fault Refusal :=
  .next (ifCounted n s fun t => t.setW (ff t.w n))

/-- LOADINIT (R138): NOT_CONFIGURED without an active configuration, else `W <- INIT(AK, C, AS)`. -/
def execLoadinit (s : State) : Host.Outcome State Fault Refusal :=
  .next (ifConfigured s fun t => t.setW (initMat t.activeKey t.counter t.activeStream))

end Sys2Proof.Machine
end

