-- ==== Sys2Proof/Machine/Dispatch.lean ====
section
/-! DEFINITION. The effect of a decoded command: one arm per constructor of Instr. -/

namespace Sys2Proof.Machine

/-- The effect of command i on state s (30_encoding.md R96: "execute the rule of op"). -/
def exec (i : Instr) (s : State) : Host.Outcome State Fault Refusal :=
  match i with
  | .nop => Sys2Proof.Machine.execNop s
  | .config => Sys2Proof.Machine.execConfig s
  | .generate => Sys2Proof.Machine.execGenerate s
  | .regenerate => Sys2Proof.Machine.execRegenerate s
  | .setctr => Sys2Proof.Machine.execSetctr s
  | .clrerr => Sys2Proof.Machine.execClrerr s
  | .loadinit => Sys2Proof.Machine.execLoadinit s
  | .qround a b c d => Sys2Proof.Machine.execQround a b c d s
  | .colround => Sys2Proof.Machine.execColround s
  | .diaground => Sys2Proof.Machine.execDiaground s
  | .dround => Sys2Proof.Machine.execDround s
  | .perm n => Sys2Proof.Machine.execPerm n s
  | .blockfn n => Sys2Proof.Machine.execBlockfn n s

end Sys2Proof.Machine
end

