-- ==== Sys2Proof/Machine/Transact.lean ====
section
/-! DEFINITION. Host transactions: what a read, a write, a command word and a pin event do (20_memory.md,
10_state.md R26). -/

namespace Sys2Proof.Machine

/-- A word v written to CMD "executes the command v at once" (R26): decoded and checked (30_encoding.md R96),
rejected or executed. -/
def runCommand (v : Word) (s : State) : Host.Outcome State Fault Refusal :=
  match decodeWord v with
  | .error e => .next (reject e s)
  | .ok i => exec i s

/-- The register a host access reaches, or the bus error that ends it (R61, R62). The order in which an access
with several faults names one is a DESIGN CHOICE, safe (log 5). -/
def selectReg (a : HostAccess) : Except Fault Reg :=
  if a.offset < 0 ∨ 0x200 ≤ a.offset then .error .outsideWindow
  else if a.width ≠ .bits32 then .error .busWidth
  else if a.offset.toNat % 4 ≠ 0 then .error .busMisaligned
  else
    match Reg.ofOffset a.offset.toNat with
    | none => .error .busUnmapped
    | some r => .ok r

/-- A host read: the register's word is answered and nothing else changes (R64). -/
def busRead (r : Reg) (s : State) : Host.Outcome State Fault Refusal := .next (s.reply (readReg r s))

/-- A host write: a bus error on a read-only register (R63), the command on CMD (R26), else a store (R64). -/
def busWrite (r : Reg) (v : Word) (s : State) : Host.Outcome State Fault Refusal :=
  match r.access with
  | .readOnly => .fault .busReadOnly
  | .writeOnly => runCommand v s
  | .readWrite => .next (storeReg r v s)

/-- A host access: refused while reset is asserted (R280) or the state is undefined after power loss (R264),
refused from a second master (R72), else performed. -/
def busAccess (a : HostAccess) (s : State) : Host.Outcome State Fault Refusal :=
  match s.condition with
  | .resetAsserted => .refused .accessDuringReset
  | .powerLost => .refused .accessAfterPowerLoss
  | .running =>
    match a.master with
    | .other => .refused .secondMaster
    | .owner =>
      match selectReg a with
      | .error f => .fault f
      | .ok r =>
        match a.op with
        | .read => busRead r s
        | .write v => busWrite r v s

/-- One event from outside: an access, a level of the reset input, a loss of power. -/
def busEvent (e : HostEvent) (s : State) : Host.Outcome State Fault Refusal :=
  match e with
  | .access a => busAccess a s
  | .resetLine asserted => .next (resetInput asserted s)
  | .powerLoss => .next (losePower s)

/-- `rd NAME` (30_encoding.md R99): MemRead(ENGINE_BASE + off(NAME), 4). -/
def readEvent (r : Reg) : HostEvent := .access ⟨.owner, .bits32, r.offset, .read⟩

/-- `wr NAME, v` (30_encoding.md R99): MemWrite(ENGINE_BASE + off(NAME), 4, v). -/
def writeEvent (r : Reg) (v : Word) : HostEvent := .access ⟨.owner, .bits32, r.offset, .write v⟩

/-- A command line `MNEMONIC [operands]` (30_encoding.md R99): `wr CMD, <its encoding>`. -/
def commandEvent (i : Instr) : HostEvent := writeEvent .cmd (encode i)

/-- The access at a host bus address: its offset is the address less ENGINE_BASE (R60, log 2). -/
def accessAt (master : BusMaster) (width : BusWidth) (address : Nat) (op : BusOp) : HostAccess :=
  ⟨master, width, (address : Int) - (Config.engineBase : Int), op⟩

end Sys2Proof.Machine
end

