-- ==== Sys2Proof/Machine/Step.lean ====
section
/-! DEFINITION. One step of the machine: the next host access or event, in issue order (20_memory.md R73). -/

namespace Sys2Proof.Machine

/-- The engine performs the first pending event; with none it is idle "and holds its state" (60_exceptions.md
R264, 70_reset_and_hazards.md R283). -/
def step (s : State) : Host.Outcome State Fault Refusal :=
  match s.bus with
  | [] => .next s
  | e :: rest => busEvent e (s.setBus rest)

/-- s with the given command word as the host's next access, a write to CMD, and the engine running: the next
step executes it (log 3). -/
def State.withFetchWord (s : State) (_nbits w : Nat) : State :=
  { s with condition := .running, bus := writeEvent .cmd (BitVec.ofNat 32 w) :: s.bus }

end Sys2Proof.Machine
end

