-- ==== Sys2Proof/Machine/HostProtocol.lean ====
section
/-! DEFINITION. Host software that drives the engine: the pseudo-instructions of 30_encoding.md R100 as lists of
host events, and the reference cursor of 44_host_protocol.md. 00_scope.md R4(e) puts the cursor outside the engine;
it is given here over the engine's own bus transactions (log 14). -/

namespace Sys2Proof.Machine

/-! Pseudo-instructions (R100). -/

/-- `LDKEY k0, ..., k7`: eight writes in index order. -/
def ldKey (k : Key) : List HostEvent :=
  (List.finRange 8).map fun i => writeEvent (.key i) (k.word i)

/-- `LDSTREAM s`. -/
def ldStream (sid : DWord) : List HostEvent :=
  [writeEvent .streamLo (lo32 sid), writeEvent .streamHi (hi32 sid)]

/-- `LDROUNDS r`. -/
def ldRounds (r : Word) : List HostEvent := [writeEvent .rounds r]

/-- `LDCTR c`. -/
def ldCtr (c : DWord) : List HostEvent :=
  [writeEvent .ctrinLo (lo32 c), writeEvent .ctrinHi (hi32 c), commandEvent .setctr]

/-- `SEEKBLK b`. -/
def seekBlk (b : DWord) : List HostEvent := ldCtr b ++ [commandEvent .generate]

/-- `LDW w0, ..., w15`: sixteen writes in index order. -/
def ldW (x : Mat) : List HostEvent :=
  (List.finRange 16).map fun i => writeEvent (.w i) (Mat.word x i)

/-- `SEED k0..k7, s, r`. -/
def seed (k : Key) (sid : DWord) (r : Word) : List HostEvent :=
  ldKey k ++ ldStream sid ++ ldRounds r ++ [commandEvent .config]

/-- A key given as 32 bytes: word i packs bytes 4i to 4i + 3 little-endian (20_memory.md R68). -/
def keyOfBytes (k : Vector Byte 32) : Key :=
  ⟨⟨packWord k[0] k[1] k[2] k[3], packWord k[4] k[5] k[6] k[7], packWord k[8] k[9] k[10] k[11],
    packWord k[12] k[13] k[14] k[15]⟩,
   ⟨packWord k[16] k[17] k[18] k[19], packWord k[20] k[21] k[22] k[23], packWord k[24] k[25] k[26] k[27],
    packWord k[28] k[29] k[30] k[31]⟩⟩

/-! Performing host transactions. -/

/-- The first outcome's value handed on; a fault or a refusal ends the host program. -/
def andThen {α β : Type} (o : Host.Outcome α Fault Refusal) (f : α → Host.Outcome β Fault Refusal) :
    Host.Outcome β Fault Refusal :=
  match o with
  | .next a => f a
  | .fault r => .fault r
  | .refused r => .refused r

/-- Events performed one after another, in issue order (20_memory.md R73). -/
def perform : List HostEvent → State → Host.Outcome State Fault Refusal
  | [], s => .next s
  | e :: rest, s => andThen (busEvent e s) (perform rest)

/-- `rd NAME -> v`: the word the bus answers, with the state after the read. -/
def hostRead (r : Reg) (s : State) : Host.Outcome (Word × State) Fault Refusal :=
  andThen (busEvent (readEvent r) s) fun t => .next (t.replies.getLastD 0, t)

/-! The reference cursor. -/

/-- The cursor's state (R232): idx is the read index into OUT, 64 meaning exhausted. -/
structure Cursor where
  valid : Bool
  base : DWord
  idx : Nat
  deriving DecidableEq, Repr

/-- "After construction: valid = false, idx = 64" (R232). The base is not read while valid is false; its 0 is a
DESIGN CHOICE, safe (log 14). -/
def Cursor.fresh : Cursor := ⟨false, 0, 64⟩

/-! Construction (R231). -/

/-- The check that ends a construction: STATUS is read, ERRCODE must be 0 and CONFIGURED 1. The host then has a cursor
as R232 constructs it; with the check failed it has none (DESIGN CHOICE, safe, log 14). -/
def checkConstructed (s : State) : Host.Outcome (Option Cursor × State) Fault Refusal :=
  andThen (hostRead .status s) fun q =>
    .next (if q.1.extractLsb' 8 8 = 0 ∧ q.1.extractLsb' 0 1 = 1 then some Cursor.fresh else none, q.2)

/-- Construction from a seed: `SEED k0..k7, s, r`, then the check. -/
def construct (k : Key) (sid : DWord) (r : Word) (s : State) : Host.Outcome (Option Cursor × State) Fault Refusal :=
  andThen (perform (seed k sid r) s) checkConstructed

/-- The zero-key/zero-stream default: `CONFIG` with the staging registers as they are, at their reset values after a
reset, then the check. -/
def constructDefault (s : State) : Host.Outcome (Option Cursor × State) Fault Refusal :=
  andThen (perform [commandEvent .config] s) checkConstructed

/-! Reading. -/

/-- The refill of R233 when the buffer is exhausted: the counter is read, then GENERATE is issued. -/
def refill (k : Cursor) (s : State) : Host.Outcome (Cursor × State) Fault Refusal :=
  if k.idx < 64 then .next (k, s)
  else
    andThen (hostRead .ctrLo s) fun lo =>
      andThen (hostRead .ctrHi lo.2) fun hi =>
        andThen (busEvent (commandEvent .generate) hi.2) fun t => .next (⟨true, pair64 hi.1 lo.1, 0⟩, t)

/-- NextWord (R233). -/
def nextWord (k : Cursor) (s : State) : Host.Outcome (Word × Cursor × State) Fault Refusal :=
  andThen (refill k s) fun p =>
    if h : p.1.idx < 64 then
      andThen (hostRead (.out ⟨p.1.idx, h⟩) p.2) fun q =>
        .next (q.1, { p.1 with idx := p.1.idx + 1 }, q.2)
    else .next (0, p.1, p.2)

/-- n NextWords in a row, the words in order. -/
def nextWords : Nat → Cursor → State → Host.Outcome (List Word × Cursor × State) Fault Refusal
  | 0, k, s => .next ([], k, s)
  | n + 1, k, s =>
    andThen (nextWord k s) fun p =>
      andThen (nextWords n p.2.1 p.2.2) fun q => .next (p.1 :: q.1, q.2.1, q.2.2)

/-- NextU64 (R233): the first draw is the low half. -/
def nextU64 (k : Cursor) (s : State) : Host.Outcome (DWord × Cursor × State) Fault Refusal :=
  andThen (nextWord k s) fun lo =>
    andThen (nextWord lo.2.1 lo.2.2) fun hi => .next (pair64 hi.1 lo.1, hi.2.1, hi.2.2)

/-- Fill of n bytes (R234): whole words little-endian, then, for a rest of 1 to 3 bytes, the low bytes of one more
word, which is consumed whole (PRESUMED by the spec, log 14). -/
def fillBytes (n : Nat) (k : Cursor) (s : State) : Host.Outcome (List Byte × Cursor × State) Fault Refusal :=
  andThen (nextWords ((n + 3) / 4) k s) fun p => .next ((p.1.flatMap wordBytes).take n, p.2.1, p.2.2)

/-- Seek to (b, o) (R235): an offset of 16 or more is refused; a hit only moves the index; else `LDCTR b;
GENERATE`. -/
def seek (b : DWord) (o : Nat) (k : Cursor) (s : State) : Host.Outcome (Cursor × State) Fault Refusal :=
  if 16 ≤ o then .refused .seekOffset
  else if k.valid ∧ b = k.base then .next ({ k with idx := o }, s)
  else andThen (perform (seekBlk b) s) fun t => .next (⟨true, b, o⟩, t)

/-- Reading the position (R236): (block index, word offset), with the engine's counter when not valid. -/
def position (k : Cursor) (s : State) : DWord × Nat :=
  if k.valid then (k.base + BitVec.ofNat 64 (k.idx / 16), k.idx % 16)
  else (pair64 (readReg .ctrHi s) (readReg .ctrLo s), 0)

end Sys2Proof.Machine
end

