-- ==== Sys2Proof/Safety.lean ====
section
/-! DEFINITION. What claims call a good state and a legal access. -/

namespace Sys2Proof.Machine

/-- What every step keeps: the bound backend is none exactly when unconfigured and is one the build has
(10_state.md R25, 42_backends.md R190, R191), AR is 0 before the first CONFIG and then 4, 6 or 10 (R32), ERRCODE
is 0 to 8 (60_exceptions.md R250). -/
abbrev State.Inv (s : State) : Prop :=
  (s.backend = none ↔ s.configured = false) ∧
  (s.configured = false → s.activeRounds = 0) ∧
  (s.configured = true → s.activeRounds = 4 ∨ s.activeRounds = 6 ∨ s.activeRounds = 10) ∧
  (s.backend = some .v128 → s.hasV128 = true) ∧
  (s.backend = some .v256 → s.hasV256 = true) ∧
  s.errCode.toNat ≤ 8

/-- The host keeps duty R230(a), (c) on this access: the owner's, 32 bits wide, at the offset of a mapped register
and no write to a read-only one. -/
abbrev HostAccess.Legal (a : HostAccess) : Prop :=
  a.master = .owner ∧ a.width = .bits32 ∧ ∃ r : Reg, a.offset = r.offset ∧
    (a.op = .read ∨ r.access ≠ .readOnly)

/-- A step that ends in neither a fault nor a refusal. -/
abbrev Safe (s : State) : Prop := ∃ t, step s = .next t

end Sys2Proof.Machine
end

