-- ==== Sys2Proof/Certificates/Slice0/Obligations.lean ====
section
/-! DEFINITION. The statements about the machine, each from the numbered rules of the spec named in its docstring. -/

namespace Sys2Proof.Machine

/-- The matrix index n (taken modulo 16), for statements that compute one. -/
def at16 (n : Nat) : Fin 16 := ⟨n % 16, by omega⟩

/-- The buffer index n (taken modulo 64). -/
def at64 (n : Nat) : Fin 64 := ⟨n % 64, by omega⟩

/-- The host's next access is the owner's 32-bit access of the given kind at a byte offset of the window. -/
def nextAccess (s : State) (o : Nat) (op : BusOp) (rest : List HostEvent) : Prop :=
  s.bus = .access ⟨.owner, .bits32, o, op⟩ :: rest

/-- The host's next access writes v to CMD (offset 0x010). -/
def nextCommand (s : State) (v : Word) : Prop := ∃ rest, nextAccess s 0x010 (.write v) rest

/-- The next event deasserts the reset input after its assertion. -/
def nextIsReset (s : State) : Prop :=
  s.condition = .resetAsserted ∧ ∃ rest, s.bus = .resetLine false :: rest

/-- The code a decoded command is rejected with, from the causes and the order of 60_exceptions.md R250 and R253;
none when it is accepted. -/
def rejectionCode (i : Instr) (s : State) : Option (BitVec 8) :=
  match i with
  | .config =>
    if s.rounds = 0 then some 0x03
    else if s.rounds ≠ 4 ∧ s.rounds ≠ 6 ∧ s.rounds ≠ 10 then some 0x04
    else if select s.backendForce s.hasV128 s.hasV256 = none then some 0x05
    else none
  | .generate => if s.configured then none else some 0x06
  | .regenerate => if s.configured then none else some 0x06
  | .setctr => if s.configured then none else some 0x06
  | .loadinit => if s.configured then none else some 0x06
  | .qround a b c d => if a = b ∨ a = c ∨ a = d ∨ b = c ∨ b = d ∨ c = d then some 0x07 else none
  | .perm n => if n = 0 then some 0x08 else none
  | .blockfn n => if n = 0 then some 0x08 else none
  | .nop => none
  | .clrerr => none
  | .colround => none
  | .diaground => none
  | .dround => none

end Sys2Proof.Machine

open Sys2Proof Sys2Proof.Machine

/-! Encoding. -/

/-- Decoding the encoding of a well-formed command gives it back, with every operand at every value its field
admits (30_encoding.md R91 to R95). -/
def Obligations.DecodeOfEncodeIsTheCommand : Prop :=
  ∀ i : Instr, i.wellFormed = true → decodeWord (encode i) = .ok i

/-- A word that decodes is the encoding of the command it decodes to, and that command is well formed
(30_encoding.md R91 to R95). -/
def Obligations.EncodeOfDecodeIsTheWord : Prop :=
  ∀ (w : Word) (i : Instr), decodeWord w = .ok i → i.wellFormed = true ∧ encode i = w

/-- R95: a word selects the row whose Match it has under the row's Mask; no word selects two rows; an opcode of no
row is unassigned. -/
def Obligations.WordSelectsItsOpcodeRow : Prop :=
  (∀ w : Word, ∀ r ∈ opcodeRows,
    (∃ i, decodeWord w = .ok i ∧ (i.rowMatch, i.rowMask) = r) ↔ w &&& r.2 = r.1) ∧
  opcodeRows.Pairwise (fun r q => ∀ w : Word, ¬(w &&& r.2 = r.1 ∧ w &&& q.2 = q.1)) ∧
  (∀ w : Word, (∀ r ∈ opcodeRows, w.toNat % 256 ≠ r.1.toNat % 256) → decodeWord w = .error .illegalOp)

/-- R96: the two decode checks in their order, then the rule of the opcode with the fields of R93 or R94, each field
read off the word by division. -/
def Obligations.CommandWordIsCheckedThenExecuted : Prop :=
  ∀ (v : Word) (s : State),
    (v.toNat % 256 ∉ [0x00, 0x01, 0x02, 0x03, 0x04, 0x05, 0x08, 0x10, 0x11, 0x12, 0x13, 0x14, 0x15] →
      runCommand v s = .next { s with errCode := 0x01 }) ∧
    (v.toNat % 256 ∈ [0x00, 0x01, 0x02, 0x03, 0x04, 0x05, 0x08, 0x11, 0x12, 0x13] → v.toNat / 2 ^ 8 ≠ 0 →
      runCommand v s = .next { s with errCode := 0x02 }) ∧
    (v.toNat % 256 = 0x10 → v.toNat / 2 ^ 24 ≠ 0 → runCommand v s = .next { s with errCode := 0x02 }) ∧
    (v.toNat % 256 = 0x14 ∨ v.toNat % 256 = 0x15 → v.toNat / 2 ^ 16 ≠ 0 →
      runCommand v s = .next { s with errCode := 0x02 }) ∧
    (v.toNat = 0x00 → runCommand v s = exec .nop s) ∧
    (v.toNat = 0x01 → runCommand v s = exec .config s) ∧
    (v.toNat = 0x02 → runCommand v s = exec .generate s) ∧
    (v.toNat = 0x03 → runCommand v s = exec .regenerate s) ∧
    (v.toNat = 0x04 → runCommand v s = exec .setctr s) ∧
    (v.toNat = 0x05 → runCommand v s = exec .clrerr s) ∧
    (v.toNat = 0x08 → runCommand v s = exec .loadinit s) ∧
    (v.toNat % 256 = 0x10 → v.toNat / 2 ^ 24 = 0 →
      runCommand v s = exec (.qround (at16 (v.toNat / 2 ^ 8)) (at16 (v.toNat / 2 ^ 12)) (at16 (v.toNat / 2 ^ 16))
        (at16 (v.toNat / 2 ^ 20))) s) ∧
    (v.toNat = 0x11 → runCommand v s = exec .colround s) ∧
    (v.toNat = 0x12 → runCommand v s = exec .diaground s) ∧
    (v.toNat = 0x13 → runCommand v s = exec .dround s) ∧
    (v.toNat % 256 = 0x14 → v.toNat / 2 ^ 16 = 0 → runCommand v s = exec (.perm (v.toNat / 2 ^ 8)) s) ∧
    (v.toNat % 256 = 0x15 → v.toNat / 2 ^ 16 = 0 → runCommand v s = exec (.blockfn (v.toNat / 2 ^ 8)) s)

/-- R101: the spec's encoding examples, decoded and encoded, with its two rejected words. -/
def Obligations.EncodingExamplesOfTheSpec : Prop :=
  (∀ p ∈ [(Instr.nop, (0x00000000 : Word)), (.config, 0x00000001), (.generate, 0x00000002),
      (.regenerate, 0x00000003), (.setctr, 0x00000004), (.clrerr, 0x00000005), (.loadinit, 0x00000008),
      (.qround 0 4 8 12, 0x00C84010), (.qround 2 7 8 13, 0x00D87210), (.colround, 0x00000011),
      (.diaground, 0x00000012), (.dround, 0x00000013), (.perm 10, 0x00000A14), (.blockfn 10, 0x00000A15),
      (.blockfn 255, 0x0000FF15)], decodeWord p.2 = .ok p.1 ∧ encode p.1 = p.2) ∧
  decodeWord 0x00000006 = .error .illegalOp ∧ decodeWord 0x00000102 = .error .reservedNz

/-! Steps. -/

/-- A word written to CMD executes at once (10_state.md R26): when it decodes, the step is exec of the command on the
state with the access taken off the host's queue; when it does not, the step is its rejection, which sets ERRCODE
alone. The queue is the model's form of the host (log 3). -/
def Obligations.StepRunsTheDecodedCommand : Prop :=
  ∀ (s : State) (v : Word) (rest : List HostEvent), s.condition = .running → nextAccess s 0x010 (.write v) rest →
    (∀ i, decodeWord v = .ok i → step s = exec i { s with bus := rest }) ∧
    (∀ e, decodeWord v = .error e → step s = .next { s with bus := rest, errCode := e.code })

/-- Between host accesses a running engine "is idle and holds its state" (60_exceptions.md R264, 70 R283). That the
machine takes a step then, which answers the same state, is the model's choice (log 3). What is held while reset is
asserted (log 8) or power is lost (log 9) is the model's alone, and this statement leaves it out. -/
def Obligations.StepWithoutAccessHoldsState : Prop :=
  ∀ s : State, s.condition = .running → s.bus = [] → step s = .next s

/-- withFetchWord makes the given word the command the very next step executes (log 3). -/
def Obligations.FetchWordIsTheNextCommand : Prop :=
  ∀ (s : State) (w : Nat) (i : Instr), decodeTableWord 32 w = some i →
    step (s.withFetchWord 32 w) = exec i { s with condition := .running }

/-! Host accesses. -/

/-- Any other width, or an address that is not a multiple of 4, is a bus error, whatever the register (20_memory.md
R61). The address is ENGINE_BASE plus the offset, and ENGINE_BASE is a multiple of 0x200. R61 knows one bus error: that
a wrong width is named busWidth whatever else is wrong is the model's choice (log 5). -/
def Obligations.WrongWidthOrAlignmentIsABusError : Prop :=
  ∀ (s : State) (wd : BusWidth) (o : Nat) (op : BusOp) (rest : List HostEvent), s.condition = .running →
    o < 0x200 → s.bus = .access (accessAt .owner wd (Config.engineBase + o) op) :: rest →
    (wd ≠ .bits32 → step s = .fault .busWidth) ∧
    ((Config.engineBase + o) % 4 ≠ 0 → step s = .fault .busWidth ∨ step s = .fault .busMisaligned)

/-- R44: any access, of any width, to an unmapped offset is a bus error. -/
def Obligations.UnmappedOffsetsAreBusErrors : Prop :=
  ∀ (s : State) (wd : BusWidth) (o : Nat) (op : BusOp) (rest : List HostEvent), s.condition = .running →
    (0x018 ≤ o ∧ o < 0x020 ∨ 0x05C ≤ o ∧ o < 0x080 ∨ 0x0C0 ≤ o ∧ o < 0x100) →
    s.bus = .access ⟨.owner, wd, o, op⟩ :: rest →
    ∃ f ∈ [Fault.busWidth, .busMisaligned, .busUnmapped], step s = .fault f

/-- R63: a write to ID, CAPS, STATUS, CTR_LO, CTR_HI, ACT_ROUNDS or OUT is a bus error; a read of CMD answers 0 and
changes nothing else. -/
def Obligations.ReadOnlyWritesAreBusErrors : Prop :=
  (∀ (s : State) (o : Nat) (v : Word) (rest : List HostEvent), s.condition = .running →
    (o ∈ [0x000, 0x004, 0x00C, 0x050, 0x054, 0x058] ∨ 0x100 ≤ o ∧ o < 0x200 ∧ o % 4 = 0) →
    nextAccess s o (.write v) rest → step s = .fault .busReadOnly) ∧
  (∀ (s : State) (rest : List HostEvent), s.condition = .running → nextAccess s 0x010 .read rest →
    step s = .next { s with bus := rest, replies := s.replies ++ [0] })

/-- On a running engine an access completes, with no fault and no refusal, exactly when the host keeps duties (a) and
(c) of 44_host_protocol.md R230. -/
def Obligations.AccessCompletesExactlyWhenLegal : Prop :=
  ∀ (s : State) (a : HostAccess) (rest : List HostEvent), s.condition = .running → s.bus = .access a :: rest →
    (Safe s ↔ a.Legal)

/-- What the model refuses: an access while reset is asserted (R280), after power loss (R264, log 9), from a second
master (R72, log 7). -/
def Obligations.AccessesOutsideTheSpecAreRefused : Prop :=
  ∀ (s : State) (a : HostAccess) (rest : List HostEvent), s.bus = .access a :: rest →
    (s.condition = .resetAsserted → step s = .refused .accessDuringReset) ∧
    (s.condition = .powerLost → step s = .refused .accessAfterPowerLoss) ∧
    (s.condition = .running → a.master = .other → step s = .refused .secondMaster)

/-- R64: a read of any register, at any point, answers its word and changes no state, and a second read answers the
same; a write to
a read-write register stores the word (CTRL drops bits [31:2]), every other register reads as before, nothing else
changes, and writing it again changes nothing more. -/
def Obligations.AccessesHaveNoOtherEffect : Prop :=
  (∀ (s : State) (r : Reg) (rest : List HostEvent), s.condition = .running → s.bus = readEvent r :: rest →
    step s = .next { s with bus := rest, replies := s.replies ++ [readReg r s] }) ∧
  (∀ (s : State) (r : Reg) (rest : List HostEvent), s.condition = .running →
    s.bus = readEvent r :: readEvent r :: rest →
    ∃ t, step s = .next t ∧
      step t = .next { s with bus := rest, replies := s.replies ++ [readReg r s, readReg r s] }) ∧
  (∀ (s : State) (r : Reg) (v : Word) (rest : List HostEvent), s.condition = .running → r.access = .readWrite →
    s.bus = writeEvent r v :: rest →
    ∃ t, step s = .next t ∧
      readReg r t = (if r = .ctrl then v &&& 3 else v) ∧
      (∀ q : Reg, q ≠ r → readReg q t = readReg q s) ∧
      t = { t with
        hasV128 := s.hasV128, hasV256 := s.hasV256, configured := s.configured, backend := s.backend,
        errCode := s.errCode, counter := s.counter, activeKey := s.activeKey, activeStream := s.activeStream,
        activeRounds := s.activeRounds, out := s.out, condition := s.condition, bus := rest,
        replies := s.replies } ∧
      step { t with bus := s.bus } = .next t)

/-- R22: ID reads 0x43433230 in every state, and a write to it is a bus error. -/
def Obligations.IdAlwaysReadsCC20 : Prop :=
  ∀ (s : State) (rest : List HostEvent), s.condition = .running →
    (nextAccess s 0x000 .read rest →
      step s = .next { s with bus := rest, replies := s.replies ++ [0x43433230] }) ∧
    (∀ v, nextAccess s 0x000 (.write v) rest → step s = .fault .busReadOnly)

/-- R23: CAPS reads 1 + 2·HAS_V128 + 4·HAS_V256, no step changes it, a reset included, and a write to it is a bus
error. -/
def Obligations.CapsReportsTheBuildForever : Prop :=
  (∀ (s : State) (rest : List HostEvent), s.condition = .running → nextAccess s 0x004 .read rest →
    ∃ v : Word, step s = .next { s with bus := rest, replies := s.replies ++ [v] } ∧
      v.toNat = 1 + 2 * s.hasV128.toNat + 4 * s.hasV256.toNat) ∧
  (∀ s t : State, step s = .next t → readReg .caps t = readReg .caps s) ∧
  (∀ (s : State) (v : Word) (rest : List HostEvent), s.condition = .running →
    nextAccess s 0x004 (.write v) rest → step s = .fault .busReadOnly)

/-- What the composed registers read: STATUS (10_state.md R25), CTRL (R24), CTR_LO and CTR_HI (R31), as numbers, so
that every reserved bit is seen to be 0. -/
def Obligations.ComposedRegistersReadTheirFields : Prop :=
  ∀ s : State,
    (readReg .status s).toNat =
      s.configured.toNat + 2 * (match s.backend with | none => 0 | some .sw => 1 | some .v128 => 2 | some .v256 => 3)
        + (if s.errCode = 0 then 0 else 8) + 256 * s.errCode.toNat ∧
    (readReg .ctrl s).toNat = s.backendForce.toNat ∧
    (readReg .ctrLo s).toNat = s.counter.toNat % 2 ^ 32 ∧
    (readReg .ctrHi s).toNat = s.counter.toNat / 2 ^ 32

/-! Commands. Each statement gives the word that executes the command, its result as a whole next state (so its
frame), its rejections. -/

/-- R220: NOP changes nothing; with a bit of [31:8] set it is RESERVED_NZ. -/
def Obligations.NopChangesNothing : Prop :=
  ∀ s : State,
    exec .nop s = .next s ∧ runCommand 0x00000000 s = .next s ∧
    (∀ v : Word, v.toNat % 256 = 0x00 → v.toNat / 256 ≠ 0 → runCommand v s = .next { s with errCode := 0x02 })

/-- R221: CLRERR clears ERRCODE, so ERR reads 0, and changes nothing else; with a bit of [31:8] set it is
RESERVED_NZ. -/
def Obligations.ClrerrClearsTheErrorRecord : Prop :=
  ∀ s : State,
    exec .clrerr s = .next { s with errCode := 0 } ∧ runCommand 0x00000005 s = .next { s with errCode := 0 } ∧
    errFlag { s with errCode := 0 } = false ∧
    (∀ v : Word, v.toNat % 256 = 0x05 → v.toNat / 256 ≠ 0 → runCommand v s = .next { s with errCode := 0x02 })

/-- R121, R6: the quarter round is the four lines of the source, with rotl32 the left rotation. -/
def Obligations.QuarterRoundIsTheFourLines : Prop :=
  ∀ a b c d : Word,
    qr a b c d =
      (let a1 := a + b
       let d1 := (d ^^^ a1).rotateLeft 16
       let c1 := c + d1
       let b1 := (b ^^^ c1).rotateLeft 12
       let a2 := a1 + b1
       let d2 := (d1 ^^^ a2).rotateLeft 8
       let c2 := c1 + d2
       let b2 := (b1 ^^^ c2).rotateLeft 7
       ⟨a2, b2, c2, d2⟩)

/-- R132: QROUND on four distinct indices writes QR of the four words to them, the twelve others and everything else
unchanged; with two equal indices it is QR_ALIAS; with a bit of [31:24] set its word is RESERVED_NZ. -/
def Obligations.QroundAppliesQRAtItsIndices : Prop :=
  (∀ (a b c d : Fin 16) (s : State), a ≠ b → a ≠ c → a ≠ d → b ≠ c → b ≠ d → c ≠ d →
    ∃ t, exec (.qround a b c d) s = .next t ∧
      Mat.word t.w a = (qr (Mat.word s.w a) (Mat.word s.w b) (Mat.word s.w c) (Mat.word s.w d)).e0 ∧
      Mat.word t.w b = (qr (Mat.word s.w a) (Mat.word s.w b) (Mat.word s.w c) (Mat.word s.w d)).e1 ∧
      Mat.word t.w c = (qr (Mat.word s.w a) (Mat.word s.w b) (Mat.word s.w c) (Mat.word s.w d)).e2 ∧
      Mat.word t.w d = (qr (Mat.word s.w a) (Mat.word s.w b) (Mat.word s.w c) (Mat.word s.w d)).e3 ∧
      (∀ k, k ≠ a → k ≠ b → k ≠ c → k ≠ d → Mat.word t.w k = Mat.word s.w k) ∧
      t = { s with w := t.w }) ∧
  (∀ (a b c d : Fin 16) (s : State), (a = b ∨ a = c ∨ a = d ∨ b = c ∨ b = d ∨ c = d) →
    exec (.qround a b c d) s = .next { s with errCode := 0x07 }) ∧
  (∀ (a b c d : Fin 16) (s : State),
    runCommand (BitVec.ofNat 32 (0x10 + 0x100 * a + 0x1000 * b + 0x10000 * c + 0x100000 * d)) s =
      exec (.qround a b c d) s) ∧
  (∀ (v : Word) (s : State), v.toNat % 256 = 0x10 → v.toNat / 2 ^ 24 ≠ 0 →
    runCommand v s = .next { s with errCode := 0x02 })

/-- R123, R133: COLROUND applies QR to the four columns, row 0 as A to row 3 as D; nothing but W changes. -/
def Obligations.ColroundAppliesQRToColumns : Prop :=
  ∀ s : State, ∃ t, exec .colround s = .next t ∧ runCommand 0x00000011 s = .next t ∧
    (∀ j : Fin 4,
      let g := qr (Mat.word s.w (at16 j)) (Mat.word s.w (at16 (4 + j))) (Mat.word s.w (at16 (8 + j)))
        (Mat.word s.w (at16 (12 + j)))
      Mat.word t.w (at16 j) = g.e0 ∧ Mat.word t.w (at16 (4 + j)) = g.e1 ∧
      Mat.word t.w (at16 (8 + j)) = g.e2 ∧ Mat.word t.w (at16 (12 + j)) = g.e3) ∧
    t = { s with w := t.w } ∧
    (∀ v : Word, v.toNat % 256 = 0x11 → v.toNat / 256 ≠ 0 → runCommand v s = .next { s with errCode := 0x02 })

/-- R124, R134: DIAGROUND applies QR to the four diagonals, every word left at its own index; nothing but W
changes. -/
def Obligations.DiagroundAppliesQRToDiagonals : Prop :=
  ∀ s : State, ∃ t, exec .diaground s = .next t ∧ runCommand 0x00000012 s = .next t ∧
    (∀ j : Fin 4,
      let g := qr (Mat.word s.w (at16 j)) (Mat.word s.w (at16 (4 + (j + 1) % 4)))
        (Mat.word s.w (at16 (8 + (j + 2) % 4))) (Mat.word s.w (at16 (12 + (j + 3) % 4)))
      Mat.word t.w (at16 j) = g.e0 ∧ Mat.word t.w (at16 (4 + (j + 1) % 4)) = g.e1 ∧
      Mat.word t.w (at16 (8 + (j + 2) % 4)) = g.e2 ∧ Mat.word t.w (at16 (12 + (j + 3) % 4)) = g.e3) ∧
    t = { s with w := t.w } ∧
    (∀ v : Word, v.toNat % 256 = 0x12 → v.toNat / 256 ≠ 0 → runCommand v s = .next { s with errCode := 0x02 })

/-- R135: DROUND equals COLROUND followed by DIAGROUND, and changes nothing but W. -/
def Obligations.DroundIsColroundThenDiaground : Prop :=
  ∀ s : State, ∃ t u, exec .colround s = .next t ∧ exec .diaground t = .next u ∧ exec .dround s = .next u ∧
    runCommand 0x00000013 s = .next u ∧ u = { s with w := u.w } ∧
    (∀ v : Word, v.toNat % 256 = 0x13 → v.toNat / 256 ≠ 0 → runCommand v s = .next { s with errCode := 0x02 })

/-- R136, R126: PERM n is n applications of DR to W, no feed-forward, for every n but 0; n = 0 is COUNT_ZERO; with a
bit of [31:16] set its word is RESERVED_NZ. -/
def Obligations.PermAppliesDRnTimes : Prop :=
  (∀ (n : Nat) (s : State), n ≠ 0 → exec (.perm n) s = .next { s with w := dr^[n] s.w }) ∧
  (∀ s : State, exec (.perm 0) s = .next { s with errCode := 0x08 }) ∧
  (∀ (n : Nat) (s : State), n < 256 → runCommand (BitVec.ofNat 32 (0x14 + 0x100 * n)) s = exec (.perm n) s) ∧
  (∀ (v : Word) (s : State), v.toNat % 256 = 0x14 → v.toNat / 2 ^ 16 ≠ 0 →
    runCommand v s = .next { s with errCode := 0x02 })

/-- R137: BLOCKFN n adds to every word of W the word of PERM_n(W), for every n but 0; n = 0 is COUNT_ZERO; with a bit
of [31:16] set its word is RESERVED_NZ. -/
def Obligations.BlockfnAddsThePermutedMatrix : Prop :=
  (∀ (n : Nat) (s : State), n ≠ 0 → ∃ t, exec (.blockfn n) s = .next t ∧
    (∀ i : Fin 16, Mat.word t.w i = Mat.word (dr^[n] s.w) i + Mat.word s.w i) ∧ t = { s with w := t.w }) ∧
  (∀ s : State, exec (.blockfn 0) s = .next { s with errCode := 0x08 }) ∧
  (∀ (n : Nat) (s : State), n < 256 → runCommand (BitVec.ofNat 32 (0x15 + 0x100 * n)) s = exec (.blockfn n) s) ∧
  (∀ (v : Word) (s : State), v.toNat % 256 = 0x15 → v.toNat / 2 ^ 16 ≠ 0 →
    runCommand v s = .next { s with errCode := 0x02 })

/-- LOADINIT writes SIGMA, the active key, the counter and the stream id, low words first, to W[0..15], and nothing
else; before a CONFIG it is NOT_CONFIGURED (40_permutation_core.md R138, R128). The four values of SIGMA are general
knowledge that R127 marks as such (log 15). -/
def Obligations.LoadinitWritesTheInitialMatrix : Prop :=
  ∀ s : State,
    (s.configured = true → ∃ t, exec .loadinit s = .next t ∧
      Mat.word t.w 0 = 0x61707865 ∧ Mat.word t.w 1 = 0x3320646e ∧ Mat.word t.w 2 = 0x79622d32 ∧
      Mat.word t.w 3 = 0x6b206574 ∧
      (∀ i : Fin 8, Mat.word t.w (at16 (4 + i)) = s.activeKey.word i) ∧
      (Mat.word t.w 12).toNat = s.counter.toNat % 2 ^ 32 ∧ (Mat.word t.w 13).toNat = s.counter.toNat / 2 ^ 32 ∧
      (Mat.word t.w 14).toNat = s.activeStream.toNat % 2 ^ 32 ∧
      (Mat.word t.w 15).toNat = s.activeStream.toNat / 2 ^ 32 ∧
      t = { s with w := t.w }) ∧
    (s.configured = false → exec .loadinit s = .next { s with errCode := 0x06 }) ∧
    runCommand 0x00000008 s = exec .loadinit s ∧
    (∀ v : Word, v.toNat % 256 = 0x08 → v.toNat / 256 ≠ 0 → runCommand v s = .next { s with errCode := 0x02 })

/-- R163: CONFIG's three rejections in their order, and its effect on an accepted configuration: the staged values
become active, BK is bound, C and OUT are cleared, CONFIGURED is set, ERRCODE and all else unchanged. -/
def Obligations.ConfigChecksThenLatches : Prop :=
  ∀ s : State,
    (s.rounds = 0 → exec .config s = .next { s with errCode := 0x03 }) ∧
    (s.rounds ≠ 0 → s.rounds ≠ 4 → s.rounds ≠ 6 → s.rounds ≠ 10 →
      exec .config s = .next { s with errCode := 0x04 }) ∧
    ((s.rounds = 4 ∨ s.rounds = 6 ∨ s.rounds = 10) →
      (select s.backendForce s.hasV128 s.hasV256 = none → exec .config s = .next { s with errCode := 0x05 }) ∧
      (∀ b, select s.backendForce s.hasV128 s.hasV256 = some b →
        exec .config s = .next { s with
          activeKey := s.key, activeStream := s.streamHi ++ s.streamLo, activeRounds := s.rounds,
          backend := some b, counter := 0, out := Buffer.zero, configured := true })) ∧
    runCommand 0x00000001 s = exec .config s ∧
    (∀ v : Word, v.toNat % 256 = 0x01 → v.toNat / 256 ≠ 0 → runCommand v s = .next { s with errCode := 0x02 })

/-- R191: SELECT. -/
def Obligations.SelectBindsTheWidestBuiltBackend : Prop :=
  ∀ x y : Bool,
    select 0 x y = some (if y = true then .v256 else if x = true then .v128 else .sw) ∧
    select 1 x y = some .sw ∧
    select 2 x y = (if x = true then some .v128 else none) ∧
    select 3 x y = (if y = true then some .v256 else none)

/-- R165: on every bound datapath GENERATE fills OUT with BLOCK at C, C + 1, C + 2, C + 3 and advances C by 4 modulo
2^64, nothing else changing; before a CONFIG it is NOT_CONFIGURED. -/
def Obligations.GenerateFillsFourBlocksAndAdvances : Prop :=
  ∀ s : State,
    (s.configured = true → ∃ t, exec .generate s = .next t ∧
      (∀ (k : Fin 4) (j : Fin 16), Buffer.word t.out (at64 (16 * k + j)) =
        Mat.word (block s.activeKey (s.counter + BitVec.ofNat 64 k) s.activeStream s.activeRounds.toNat) j) ∧
      t = { s with out := t.out, counter := s.counter + 4 }) ∧
    (s.configured = false → exec .generate s = .next { s with errCode := 0x06 }) ∧
    runCommand 0x00000002 s = exec .generate s ∧
    (∀ v : Word, v.toNat % 256 = 0x02 → v.toNat / 256 ≠ 0 → runCommand v s = .next { s with errCode := 0x02 })

/-- R166: REGENERATE fills OUT with the buffer GENERATE would fill at the same C and leaves C and all else; before a
CONFIG it is NOT_CONFIGURED. -/
def Obligations.RegenerateFillsFourBlocksOnly : Prop :=
  ∀ s : State,
    (s.configured = true → ∃ t, exec .regenerate s = .next t ∧
      (∀ (k : Fin 4) (j : Fin 16), Buffer.word t.out (at64 (16 * k + j)) =
        Mat.word (block s.activeKey (s.counter + BitVec.ofNat 64 k) s.activeStream s.activeRounds.toNat) j) ∧
      t = { s with out := t.out } ∧ exec .regenerate t = .next t) ∧
    (s.configured = false → exec .regenerate s = .next { s with errCode := 0x06 }) ∧
    runCommand 0x00000003 s = exec .regenerate s ∧
    (∀ v : Word, v.toNat % 256 = 0x03 → v.toNat / 256 ≠ 0 → runCommand v s = .next { s with errCode := 0x02 })

/-- R167: SETCTR sets C to {CTRIN_HI, CTRIN_LO} and leaves OUT and all else; before a CONFIG it is NOT_CONFIGURED. -/
def Obligations.SetctrLoadsTheStagedCounter : Prop :=
  ∀ s : State,
    (s.configured = true → ∃ c : DWord, exec .setctr s = .next { s with counter := c } ∧
      c.toNat = s.ctrinHi.toNat * 2 ^ 32 + s.ctrinLo.toNat) ∧
    (s.configured = false → exec .setctr s = .next { s with errCode := 0x06 }) ∧
    runCommand 0x00000004 s = exec .setctr s ∧
    (∀ v : Word, v.toNat % 256 = 0x04 → v.toNat / 256 ≠ 0 → runCommand v s = .next { s with errCode := 0x02 })

/-! Whole-machine rules. -/

/-- R252: every command, in every state, completes; a rejected one has no effect but its code in ERRCODE, an accepted
one other than CLRERR leaves ERRCODE. -/
def Obligations.RejectedCommandsOnlySetErrcode : Prop :=
  (∀ (i : Instr) (s : State), ∃ t, exec i s = .next t ∧
    (∀ c, rejectionCode i s = some c → t = { s with errCode := c }) ∧
    (rejectionCode i s = none → t.errCode = if i = .clrerr then 0 else s.errCode)) ∧
  (∀ (v : Word) (s : State) (e : CmdError), decodeWord v = .error e →
    runCommand v s = .next { s with errCode := e.code })

/-- No command writes a staging register, the build, or the host's side; the work-matrix commands and LOADINIT write
nothing but W and ERRCODE; the others leave W; only CONFIG, GENERATE and REGENERATE touch OUT; only CONFIG, GENERATE and
SETCTR touch C; only CONFIG touches the active configuration (10_state.md R37 to R40). What a command does to ERRCODE is
RejectedCommandsOnlySetErrcode. -/
def Obligations.CommandsLeaveTheRestUnchanged : Prop :=
  ∀ (i : Instr) (s t : State), exec i s = .next t →
    t = { t with
      hasV128 := s.hasV128, hasV256 := s.hasV256, backendForce := s.backendForce, rounds := s.rounds, key := s.key,
      streamLo := s.streamLo, streamHi := s.streamHi, ctrinLo := s.ctrinLo, ctrinHi := s.ctrinHi,
      condition := s.condition, bus := s.bus, replies := s.replies } ∧
    ((i = .loadinit ∨ i = .colround ∨ i = .diaground ∨ i = .dround ∨ (∃ a b c d, i = .qround a b c d) ∨
        (∃ n, i = .perm n) ∨ (∃ n, i = .blockfn n)) → t = { s with w := t.w, errCode := t.errCode }) ∧
    ((i = .nop ∨ i = .clrerr ∨ i = .config ∨ i = .generate ∨ i = .regenerate ∨ i = .setctr) → t.w = s.w) ∧
    (i ≠ .config → i ≠ .generate → i ≠ .regenerate → t.out = s.out) ∧
    (i ≠ .config → i ≠ .generate → i ≠ .setctr → t.counter = s.counter) ∧
    (i ≠ .config → t.activeKey = s.activeKey ∧ t.activeStream = s.activeStream ∧
      t.activeRounds = s.activeRounds ∧ t.configured = s.configured ∧ t.backend = s.backend)

/-- R37: AK, AS and AR change only at a reset and at a CONFIG that is accepted. -/
def Obligations.ActiveConfigurationChangesOnlyAtConfig : Prop :=
  ∀ s t : State, step s = .next t →
    (t.activeKey = s.activeKey ∧ t.activeStream = s.activeStream ∧ t.activeRounds = s.activeRounds) ∨
    nextIsReset s ∨ (nextCommand s 0x00000001 ∧ rejectionCode .config s = none)

/-- R38: C changes only at a reset (to 0), an accepted CONFIG (to 0), an accepted GENERATE (by 4 modulo 2^64) and an
accepted SETCTR (to the staged counter). -/
def Obligations.CounterChangesOnlyAsStated : Prop :=
  ∀ s t : State, step s = .next t →
    t.counter = s.counter ∨
    (nextIsReset s ∧ t.counter = 0) ∨
    (nextCommand s 0x00000001 ∧ rejectionCode .config s = none ∧ t.counter = 0) ∨
    (nextCommand s 0x00000002 ∧ s.configured = true ∧ t.counter = s.counter + 4) ∨
    (nextCommand s 0x00000004 ∧ s.configured = true ∧ t.counter = s.ctrinHi ++ s.ctrinLo)

/-- R39: OUT changes only at a reset (to all 0), an accepted CONFIG (to all 0), a GENERATE and a REGENERATE, and not at
a rejected one. -/
def Obligations.OutChangesOnlyAsStated : Prop :=
  ∀ s t : State, step s = .next t →
    t.out = s.out ∨
    (nextIsReset s ∧ t.out = Buffer.zero) ∨
    (nextCommand s 0x00000001 ∧ rejectionCode .config s = none ∧ t.out = Buffer.zero) ∨
    ((nextCommand s 0x00000002 ∨ nextCommand s 0x00000003) ∧ s.configured = true)

/-- R40: W changes only at a reset (to all 0), at host writes to W0..W15 and at the work-matrix commands and
LOADINIT. -/
def Obligations.WChangesOnlyAsStated : Prop :=
  ∀ s t : State, step s = .next t →
    t.w = s.w ∨
    (nextIsReset s ∧ t.w = Mat.zero) ∨
    (∃ (i : Fin 16) (v : Word) (rest : List HostEvent), nextAccess s (0x080 + 4 * i) (.write v) rest ∧
      t.w = Mat.setWord s.w i v) ∨
    (∃ v : Word, nextCommand s v ∧
      (v = 0x00000008 ∨ v = 0x00000011 ∨ v = 0x00000012 ∨ v = 0x00000013 ∨
        v.toNat % 256 = 0x10 ∨ v.toNat % 256 = 0x14 ∨ v.toNat % 256 = 0x15))

/-- AK and AS cannot be read through the window (10_state.md R36): two engines that differ only in them answer every
step alike, reads included, and go on differing only in them, unless the step is GENERATE, REGENERATE or LOADINIT. -/
def Obligations.ActiveKeyIsNotReadable : Prop :=
  ∀ (s : State) (k : Key) (sid : DWord),
    ¬nextCommand s 0x00000002 → ¬nextCommand s 0x00000003 → ¬nextCommand s 0x00000008 →
    (∀ t, step s = .next t → ∃ t', step { s with activeKey := k, activeStream := sid } = .next t' ∧
      t = { t' with activeKey := t.activeKey, activeStream := t.activeStream }) ∧
    (∀ f, step s = .fault f → step { s with activeKey := k, activeStream := sid } = .fault f) ∧
    (∀ f, step s = .refused f → step { s with activeKey := k, activeStream := sid } = .refused f)

/-- The bound backend, and the datapaths built unless one is forced, are invisible (42_backends.md R192,
41_keystream.md R170, R171): two engines that differ only in them do the same at every step, except in the words
answered to reads of CAPS and STATUS. -/
def Obligations.BackendIsInvisible : Prop :=
  ∀ (s : State) (b : Option Backend) (x y : Bool),
    (s.backendForce.toNat ≤ 1 ∨ x = s.hasV128 ∧ y = s.hasV256) →
    ∀ t, step s = .next t →
      ∃ t', step { s with backend := b, hasV128 := x, hasV256 := y } = .next t' ∧
        t = { t' with backend := t.backend, hasV128 := t.hasV128, hasV256 := t.hasV256, replies := t.replies } ∧
        ((∀ rest, ¬nextAccess s 0x004 .read rest ∧ ¬nextAccess s 0x00C .read rest) → t'.replies = t.replies)

/-! Datapaths. -/

/-- Every datapath computes exactly BUF (42_backends.md R193, R195, R197, R199; 41_keystream.md R161, R162). With no
backend bound, a case the model chose and no run reaches, the software datapath answers (log 10). -/
def Obligations.EveryDatapathComputesTheBuffer : Prop :=
  ∀ (bk : Option Backend) (k : Key) (sid : DWord) (r : Nat) (c : DWord),
    fillBuffer bk k sid r c = buf k sid r c

/-- R196: one vector double round equals DR on the matrix (a, b, c, d), on four lanes and in each half of eight. -/
def Obligations.VectorDoubleRoundIsDR : Prop :=
  (∀ x : Mat, vectorDouble ops4 vshuf4 ⟨x.e0, x.e1, x.e2, x.e3⟩ =
    ⟨(dr x).e0, (dr x).e1, (dr x).e2, (dr x).e3⟩) ∧
  (∀ x y : Mat, vectorDouble ops8 vshuf8 ⟨⟨x.e0, y.e0⟩, ⟨x.e1, y.e1⟩, ⟨x.e2, y.e2⟩, ⟨x.e3, y.e3⟩⟩ =
    ⟨⟨(dr x).e0, (dr y).e0⟩, ⟨(dr x).e1, (dr y).e1⟩, ⟨(dr x).e2, (dr y).e2⟩, ⟨(dr x).e3, (dr y).e3⟩⟩)

/-- The counter words of block k of a buffer are those of C + k modulo 2^64, a carry out of the low word going into
the high word (41_keystream.md R162): in the initial matrix, which the software datapath starts from, in row d of the
V128 datapath (42_backends.md R195), and in both halves of row d of the V256 datapath (R198). -/
def Obligations.BlockCountersCarryAndWrap : Prop :=
  ∀ (k : Key) (sid c : DWord) (m : Nat), m < 4 →
    (Mat.word (initMat k (c + BitVec.ofNat 64 m) sid) 12).toNat = (c.toNat + m) % 2 ^ 32 ∧
    (Mat.word (initMat k (c + BitVec.ofNat 64 m) sid) 13).toNat = (c.toNat + m) % 2 ^ 64 / 2 ^ 32 ∧
    ((v128Rows k sid (c + BitVec.ofNat 64 m)).d.e0).toNat = (c.toNat + m) % 2 ^ 32 ∧
    ((v128Rows k sid (c + BitVec.ofNat 64 m)).d.e1).toNat = (c.toNat + m) % 2 ^ 64 / 2 ^ 32 ∧
    (m < 2 →
      ((v256Rows k sid c m).d.half0.e0).toNat = (c.toNat + 2 * m) % 2 ^ 32 ∧
      ((v256Rows k sid c m).d.half0.e1).toNat = (c.toNat + 2 * m) % 2 ^ 64 / 2 ^ 32 ∧
      ((v256Rows k sid c m).d.half1.e0).toNat = (c.toNat + 2 * m + 1) % 2 ^ 32 ∧
      ((v256Rows k sid c m).d.half1.e1).toNat = (c.toNat + 2 * m + 1) % 2 ^ 64 / 2 ^ 32)

/-! The network. -/

/-- R129: a block is the initial matrix plus R double rounds of it, word by word; the permuted matrix alone is never
the block, since word 0 of the initial matrix is not 0. -/
def Obligations.BlockIsFeedForwardOfPermutation : Prop :=
  ∀ (k : Key) (c sid : DWord) (r : Nat),
    (∀ i : Fin 16, Mat.word (block k c sid r) i =
      Mat.word (initMat k c sid) i + Mat.word (dr^[r] (initMat k c sid)) i) ∧
    block k c sid r ≠ dr^[r] (initMat k c sid)

/-- R139: the all-zero matrix is a fixed point of QR, COL, DIAG, DR and PERM_n, FF(0, n) = 0, and no initial matrix
is all zero in row 0. -/
def Obligations.ZeroMatrixIsAFixedPoint : Prop :=
  qr 0 0 0 0 = Row.fill 0 ∧ col Mat.zero = Mat.zero ∧ diag Mat.zero = Mat.zero ∧ dr Mat.zero = Mat.zero ∧
  (∀ n, permN n Mat.zero = Mat.zero ∧ ff Mat.zero n = Mat.zero) ∧
  (∀ (k : Key) (c sid : DWord) (j : Fin 4), Mat.word (initMat k c sid) (at16 j) ≠ 0)

/-- R140: the quarter rounds of a column round commute, and so do those of a diagonal round, the groups being
disjoint. -/
def Obligations.QuarterRoundsOfARoundCommute : Prop :=
  ∀ (x : Mat) (i j : Fin 4), i ≠ j →
    (let f := fun (y : Mat) (k : Fin 4) => qrAt y (at16 k) (at16 (4 + k)) (at16 (8 + k)) (at16 (12 + k))
     f (f x i) j = f (f x j) i) ∧
    (let g := fun (y : Mat) (k : Fin 4) =>
       qrAt y (at16 k) (at16 (4 + (k + 1) % 4)) (at16 (8 + (k + 2) % 4)) (at16 (12 + (k + 3) % 4))
     g (g x i) j = g (g x j) i)

/-- R141: PERM_m followed by PERM_n is PERM_(m+n), PERM n equals n DROUND commands in a row, and QR, DR and PERM_n are
bijections. -/
def Obligations.PermutationComposesAndIsBijective : Prop :=
  (∀ (m n : Nat) (x : Mat), permN n (permN m x) = permN (m + n) x) ∧
  (∀ (n : Nat) (s : State), n ≠ 0 → s.condition = .running →
    perform (List.replicate n (commandEvent .dround)) s = exec (.perm n) s) ∧
  Function.Bijective (fun q : Quad Word => qr q.e0 q.e1 q.e2 q.e3) ∧
  Function.Bijective dr ∧ ∀ n, Function.Bijective (permN n)

/-! The keystream over many commands. -/

/-- R169: from any C of a configured engine, m + 1 GENERATEs complete and leave OUT holding the keystream from word
16 (C + 4m) on, C having advanced by 4 (m + 1) modulo 2^64: no block is skipped or repeated, through 2^64 - 1 into 0. -/
def Obligations.GenerationIsContinuous : Prop :=
  ∀ (s : State) (m : Nat), s.configured = true → s.condition = .running →
    ∃ t, perform (List.replicate (m + 1) (commandEvent .generate)) s = .next t ∧
      t.counter = s.counter + BitVec.ofNat 64 (4 * (m + 1)) ∧
      ∀ i : Fin 64, Buffer.word t.out i =
        keystream s.activeKey s.activeStream s.activeRounds.toNat (16 * (s.counter.toNat + 4 * m) + i)

/-- R237: with the reference cursor, after Seek(b, o) the n-th NextWord returns keystream word 16 b + o + n, for every
n, whether the seek was a hit in the buffer or not, and through the wrap of the counter. -/
def Obligations.SeekIsConsistentWithReading : Prop :=
  ∀ (s : State) (k : Cursor) (b : DWord) (o n : Nat), s.configured = true → s.condition = .running → o < 16 →
    (k.valid = true → s.counter = k.base + 4 ∧
      s.out = buf s.activeKey s.activeStream s.activeRounds.toNat k.base) →
    ∃ p q, seek b o k s = .next p ∧ nextWords (n + 1) p.1 p.2 = .next q ∧
      q.1 = (List.range (n + 1)).map fun i =>
        keystream s.activeKey s.activeStream s.activeRounds.toNat (16 * b.toNat + o + i)

/-- A Fill of n bytes returns the next n bytes of the keystream, each word's bytes little-endian and a last word cut to
its low bytes (44_host_protocol.md R234, 20_memory.md R69): from block C for a cursor that is not valid yet, from its
position for one whose buffer is the engine's. Which bytes of the cut word are kept is the spec's own presumption
(log 14). -/
def Obligations.FillReturnsKeystreamBytes : Prop :=
  ∀ (s : State) (k : Cursor) (n : Nat), s.configured = true → s.condition = .running →
    (k.valid = false → k.idx = 64) →
    (k.valid = true → k.idx ≤ 64 ∧ s.counter = k.base + 4 ∧
      s.out = buf s.activeKey s.activeStream s.activeRounds.toNat k.base) →
    ∃ q, fillBytes n k s = .next q ∧ q.1.length = n ∧
      ∀ i, i < n → q.1[i]? = some
        ((keystream s.activeKey s.activeStream s.activeRounds.toNat
            ((if k.valid = true then 16 * k.base.toNat + k.idx else 16 * s.counter.toNat) + i / 4)).extractLsb'
          (8 * (i % 4)) 8)

/-- LOADINIT then BLOCKFN with the active round count leaves in W what a REGENERATE writes to OUT[0..15]
(40_permutation_core.md R138's example, for every configuration). -/
def Obligations.NetworkCommandsReproduceTheKeystream : Prop :=
  ∀ s : State, s.configured = true → s.activeRounds ≠ 0 →
    ∃ t u v, exec .loadinit s = .next t ∧ exec (.blockfn s.activeRounds.toNat) t = .next u ∧
      exec .regenerate s = .next v ∧ ∀ j : Fin 16, Mat.word u.w j = Buffer.word v.out (at64 j)

/-- A write to KEY0..KEY7, STREAM_LO, STREAM_HI, ROUNDS or CTRL (70_reset_and_hazards.md R286), or to CTRIN_LO or
CTRIN_HI (R288), changes neither C nor OUT, nor what the next GENERATE puts in OUT, nor the counter it leaves, and it
reads back as staged. -/
def Obligations.StagedWritesDoNotReachTheKeystream : Prop :=
  ∀ (s : State) (r : Reg) (v : Word),
    (r = .ctrl ∨ r = .rounds ∨ r = .streamLo ∨ r = .streamHi ∨ r = .ctrinLo ∨ r = .ctrinHi ∨ ∃ i, r = .key i) →
    s.condition = .running →
    ∃ t u u', busEvent (writeEvent r v) s = .next t ∧ readReg r t = (if r = .ctrl then v &&& 3 else v) ∧
      t.counter = s.counter ∧ t.out = s.out ∧
      exec .generate s = .next u ∧ exec .generate t = .next u' ∧ u'.out = u.out ∧ u'.counter = u.counter

/-- R289: the halves of a staged 64-bit value may be written in either order, and a latching command issued between
the two writes latches the new half, low or high, beside the old half. -/
def Obligations.StagedHalvesInEitherOrder : Prop :=
  ∀ (s : State) (lo hi : Word), s.condition = .running →
    perform [writeEvent .ctrinLo lo, writeEvent .ctrinHi hi] s =
      perform [writeEvent .ctrinHi hi, writeEvent .ctrinLo lo] s ∧
    perform [writeEvent .streamLo lo, writeEvent .streamHi hi] s =
      perform [writeEvent .streamHi hi, writeEvent .streamLo lo] s ∧
    (s.configured = true →
      ∃ t, perform [writeEvent .ctrinLo lo, commandEvent .setctr, writeEvent .ctrinHi hi] s = .next t ∧
        t.counter = s.ctrinHi ++ lo ∧ t.ctrinLo = lo ∧ t.ctrinHi = hi) ∧
    (s.configured = true →
      ∃ t, perform [writeEvent .ctrinHi hi, commandEvent .setctr, writeEvent .ctrinLo lo] s = .next t ∧
        t.counter = hi ++ s.ctrinLo ∧ t.ctrinLo = lo ∧ t.ctrinHi = hi) ∧
    (∀ b, configCheck s = .ok b →
      ∃ t, perform [writeEvent .streamLo lo, commandEvent .config, writeEvent .streamHi hi] s = .next t ∧
        t.activeStream = s.streamHi ++ lo ∧ t.streamLo = lo ∧ t.streamHi = hi) ∧
    (∀ b, configCheck s = .ok b →
      ∃ t, perform [writeEvent .streamHi hi, commandEvent .config, writeEvent .streamLo lo] s = .next t ∧
        t.activeStream = hi ++ s.streamLo ∧ t.streamLo = lo ∧ t.streamHi = hi)

/-! Reset and invariants. -/

/-- R281: the reset value of every piece of state, read through the window where it has a register. -/
def Obligations.ResetValuesOfEveryState : Prop :=
  ∀ x y : Bool,
    let s := State.resetOf x y
    readReg .id s = 0x43433230 ∧ (readReg .caps s).toNat = 1 + 2 * x.toNat + 4 * y.toNat ∧ readReg .ctrl s = 0 ∧
    readReg .status s = 0x00000000 ∧ readReg .rounds s = 0x0000000A ∧ (∀ i, readReg (.key i) s = 0) ∧
    readReg .streamLo s = 0 ∧ readReg .streamHi s = 0 ∧ readReg .ctrinLo s = 0 ∧ readReg .ctrinHi s = 0 ∧
    readReg .ctrLo s = 0 ∧ readReg .ctrHi s = 0 ∧ readReg .actRounds s = 0 ∧ (∀ i, readReg (.w i) s = 0) ∧
    (∀ i, readReg (.out i) s = 0) ∧ (∀ i, s.activeKey.word i = 0) ∧ s.activeStream = 0 ∧ s.backend = none ∧
    s.configured = false ∧ State.reset = State.resetOf Config.hasV128 Config.hasV256

/-- When reset is deasserted every piece of state holds its reset value whatever it held before
(70_reset_and_hazards.md R280), so a command before the reset leaves no trace in it, and neither does a loss of power
before the reset or during it (60_exceptions.md R264). That the state is kept while reset is asserted, and that an
access then is refused, is the model's choice (log 8); so is what the fields hold after a loss of power (log 9). -/
def Obligations.ResetRestoresEveryState : Prop :=
  (∀ (s : State) (rest : List HostEvent), s.condition = .resetAsserted → s.bus = .resetLine false :: rest →
    step s = .next { State.resetOf s.hasV128 s.hasV256 with bus := rest, replies := s.replies }) ∧
  (∀ (s : State) (rest : List HostEvent), s.bus = .resetLine true :: rest →
    step s = .next { s with bus := rest, condition := .resetAsserted }) ∧
  (∀ (s : State) (a : HostAccess) (rest : List HostEvent), s.condition = .resetAsserted →
    s.bus = .access a :: rest → step s = .refused .accessDuringReset) ∧
  (∀ (s t : State) (i : Instr), exec i s = .next t →
    perform [.resetLine true, .resetLine false] t = perform [.resetLine true, .resetLine false] s) ∧
  (∀ s : State, s.condition = .resetAsserted →
    perform [.powerLoss, .resetLine false] s = perform [.resetLine false] s) ∧
  (∀ s : State, perform [.powerLoss, .resetLine true, .resetLine false] s =
    perform [.resetLine true, .resetLine false] s)

/-- R282: after reset, GENERATE, REGENERATE, SETCTR and LOADINIT are rejected with NOT_CONFIGURED; NOP, CLRERR and the
work-matrix commands are accepted, subject to their own checks, and so is CONFIG. -/
def Obligations.OnlyKeystreamCommandsNeedConfigAfterReset : Prop :=
  ∀ x y : Bool,
    let s := State.resetOf x y
    (∀ i ∈ [Instr.generate, .regenerate, .setctr, .loadinit], exec i s = .next { s with errCode := 0x06 }) ∧
    (∀ i ∈ [Instr.nop, .clrerr, .config, .colround, .diaground, .dround], ∃ t, exec i s = .next t ∧ t.errCode = 0) ∧
    (∀ n, n ≠ 0 → (∃ t, exec (.perm n) s = .next t ∧ t.errCode = 0) ∧
      ∃ t, exec (.blockfn n) s = .next t ∧ t.errCode = 0) ∧
    (∀ a b c d : Fin 16, a ≠ b → a ≠ c → a ≠ d → b ≠ c → b ≠ d → c ≠ d →
      ∃ t, exec (.qround a b c d) s = .next t ∧ t.errCode = 0)

/-- R285: CONFIG right after reset constructs the default seed, whatever datapaths are built, and its first GENERATE
gives the source's two words. -/
def Obligations.DefaultSeedGivesTheSourceWords : Prop :=
  ∀ x y : Bool, ∃ t u, exec .config (State.resetOf x y) = .next t ∧ exec .generate t = .next u ∧
    t.activeKey = Key.zero ∧ t.activeStream = 0 ∧ t.activeRounds = 10 ∧ t.counter = 0 ∧
    Buffer.word u.out 0 = 0xade0b876 ∧ Buffer.word u.out 16 = 0xbee7079f

/-- The invariant holds at reset. -/
def Obligations.InvariantHoldsAtReset : Prop :=
  State.reset.Inv

/-- Every step keeps the invariant, from every state that has it: BACKEND is none exactly when unconfigured
(10_state.md R25), the bound backend is built (42_backends.md R191), AR is 0, then 4, 6 or 10 (R32), ERRCODE is at
most 0x08 (60_exceptions.md R250). -/
def Obligations.StepKeepsTheInvariant : Prop :=
  ∀ s t : State, s.Inv → step s = .next t → t.Inv

/-! Construction. -/

/-- Construction is SEED, then the check that ERRCODE is 0 and CONFIGURED 1 (44_host_protocol.md R231): it completes, and
gives a fresh cursor exactly when ERRCODE was 0 and CONFIG accepts the seed, the engine then holding the seed; the
default, CONFIG right after reset, gives one over key 0, stream 0, R = 10. That a failed check gives no cursor is the
model's choice (log 14). -/
def Obligations.ConstructionIsSeedThenCheck : Prop :=
  (∀ (s : State) (k : Key) (sid : DWord) (r : Word), s.condition = .running →
    ∃ c t, construct k sid r s = .next (c, t) ∧
      (c = none ∨ c = some Cursor.fresh) ∧
      (c = some Cursor.fresh ↔
        s.errCode = 0 ∧ (r = 4 ∨ r = 6 ∨ r = 10) ∧ select s.backendForce s.hasV128 s.hasV256 ≠ none) ∧
      (c = some Cursor.fresh → t.activeKey = k ∧ t.activeStream = sid ∧ t.activeRounds = r ∧ t.counter = 0 ∧
        t.out = Buffer.zero ∧ t.configured = true ∧ t.errCode = 0)) ∧
  (∀ x y : Bool, ∃ t, constructDefault (State.resetOf x y) = .next (some Cursor.fresh, t) ∧
    t.activeKey = Key.zero ∧ t.activeStream = 0 ∧ t.activeRounds = 10 ∧ t.counter = 0 ∧ t.configured = true)
end

