-- ==== Sys2Proof/Laws/Decode.lean ====
section
/-! SUPPORT. The fields of a command word as numbers (30_encoding.md R91 to R94): what a proof about the decoder
cites instead of unfolding a bit extraction. -/

namespace Sys2Proof

theorem opField_toNat (w : Word) : (opField w).toNat = w.toNat % 256 := by
  simp [opField, BitVec.extractLsb'_toNat]

theorem fieldA_val (w : Word) : (fieldA w).val = w.toNat / 2 ^ 8 % 16 := by
  simp [fieldA, Nat.shiftRight_eq_div_pow]

theorem fieldB_val (w : Word) : (fieldB w).val = w.toNat / 2 ^ 12 % 16 := by
  simp [fieldB, Nat.shiftRight_eq_div_pow]

theorem fieldC_val (w : Word) : (fieldC w).val = w.toNat / 2 ^ 16 % 16 := by
  simp [fieldC, Nat.shiftRight_eq_div_pow]

theorem fieldD_val (w : Word) : (fieldD w).val = w.toNat / 2 ^ 20 % 16 := by
  simp [fieldD, Nat.shiftRight_eq_div_pow]

theorem fieldN_eq (w : Word) : fieldN w = w.toNat / 2 ^ 8 % 256 := by
  simp [fieldN, BitVec.extractLsb'_toNat, Nat.shiftRight_eq_div_pow]

theorem reservedClear_z (w : Word) : Format.z.reservedClear w = true ↔ w.toNat / 2 ^ 8 = 0 := by
  have := w.isLt
  simp only [Format.reservedClear, beq_iff_eq, BitVec.toNat_eq, BitVec.extractLsb'_toNat, BitVec.toNat_ofNat,
    Nat.shiftRight_eq_div_pow]
  omega

theorem reservedClear_q (w : Word) : Format.q.reservedClear w = true ↔ w.toNat / 2 ^ 24 = 0 := by
  have := w.isLt
  simp only [Format.reservedClear, beq_iff_eq, BitVec.toNat_eq, BitVec.extractLsb'_toNat, BitVec.toNat_ofNat,
    Nat.shiftRight_eq_div_pow]
  omega

theorem reservedClear_n (w : Word) : Format.n.reservedClear w = true ↔ w.toNat / 2 ^ 16 = 0 := by
  have := w.isLt
  simp only [Format.reservedClear, beq_iff_eq, BitVec.toNat_eq, BitVec.extractLsb'_toNat, BitVec.toNat_ofNat,
    Nat.shiftRight_eq_div_pow]
  omega

/-- The number of an append: the high part counts in units of 2^(the low part's width). -/
theorem append_toNat {m n : Nat} (x : BitVec m) (y : BitVec n) :
    (x ++ y).toNat = x.toNat * 2 ^ n + y.toNat := by
  rw [BitVec.toNat_append, ← Nat.shiftLeft_add_eq_or_of_lt y.isLt, Nat.shiftLeft_eq]

theorem encodeQ_toNat (op : BitVec 8) (a b c d : Fin 16) :
    (encodeQ op a b c d).toNat =
      op.toNat + 2 ^ 8 * a.val + 2 ^ 12 * b.val + 2 ^ 16 * c.val + 2 ^ 20 * d.val := by
  have h (x : Fin 16) : (BitVec.ofFin (w := 4) x).toNat = x.val := rfl
  unfold encodeQ
  show BitVec.toNat (w := 8 + 4 + 4 + 4 + 4 + 8) _ = _
  simp only [append_toNat, h, BitVec.toNat_ofNat]
  omega

theorem encodeN_toNat (op : BitVec 8) (n : Nat) :
    (encodeN op n).toNat = op.toNat + 2 ^ 8 * (n % 256) := by
  unfold encodeN
  show BitVec.toNat (w := 16 + 8 + 8) _ = _
  simp only [append_toNat, BitVec.toNat_ofNat]
  omega

theorem encodeZ_toNat (op : BitVec 8) : (encodeZ op).toNat = op.toNat := by
  unfold encodeZ
  show BitVec.toNat (w := 24 + 8) _ = _
  simp only [append_toNat, BitVec.toNat_ofNat]
  omega

/-- What the decoder answers, from the row OP selects. -/
theorem decodeWord_ok_iff (w : Word) (i : Instr) :
    decodeWord w = .ok i ↔ ∃ f, commandOf w = some (f, i) ∧ f.reservedClear w = true := by
  unfold decodeWord
  cases h : commandOf w with
  | none => simp
  | some p =>
    obtain ⟨f, j⟩ := p
    by_cases hr : f.reservedClear w = true
    · simp only [hr, if_true, Except.ok.injEq, Option.some.injEq, Prod.mk.injEq]
      constructor
      · rintro rfl
        exact ⟨f, ⟨rfl, rfl⟩, hr⟩
      · rintro ⟨_, ⟨_, h2⟩, _⟩
        exact h2
    · simp only [hr, Bool.false_eq_true, if_false, reduceCtorEq, Option.some.injEq, Prod.mk.injEq, false_iff]
      rintro ⟨_, ⟨rfl, _⟩, h3⟩
      exact hr h3

end Sys2Proof
end

