-- ==== Sys2Proof/Laws/Bits.lean ====
section
/-! SUPPORT. The helpers of Machine/Bits.lean and the composed registers as numbers. -/

namespace Sys2Proof.Machine

theorem lo32_toNat (v : DWord) : (lo32 v).toNat = v.toNat % 2 ^ 32 := by
  simp [lo32, BitVec.extractLsb'_toNat]

theorem hi32_toNat (v : DWord) : (hi32 v).toNat = v.toNat / 2 ^ 32 := by
  have := v.isLt
  simp only [hi32, BitVec.extractLsb'_toNat, Nat.shiftRight_eq_div_pow]
  omega

theorem pair64_toNat (hi lo : Word) : (pair64 hi lo).toNat = hi.toNat * 2 ^ 32 + lo.toNat :=
  append_toNat hi lo

/-- A 64-bit value is the pair of its words (20_memory.md R66). -/
@[simp] theorem pair64_hi_lo (v : DWord) : pair64 (hi32 v) (lo32 v) = v := by
  apply BitVec.eq_of_toNat_eq
  rw [pair64_toNat, hi32_toNat, lo32_toNat]
  omega

/-- rotl32 is the left rotation, for the four amounts of R120. -/
theorem rotl32_eq_rotateLeft (v : Word) (n : Nat) (h : 0 < n ∧ n < 32) : rotl32 v n = v.rotateLeft n := by
  rw [BitVec.rotateLeft, Nat.mod_eq_of_lt h.2]
  rfl

end Sys2Proof.Machine
end

