-- ==== Sys2Proof/Laws/State.lean ====
section
/-! SUPPORT. One lemma per field per setter of Machine/Ops.lean: the field it writes, and every field it leaves. -/

namespace Sys2Proof.Machine

@[simp] theorem State.setErrCode_hasV128 (s : State) (v : BitVec 8) : (s.setErrCode v).hasV128 = s.hasV128 := rfl
@[simp] theorem State.setErrCode_hasV256 (s : State) (v : BitVec 8) : (s.setErrCode v).hasV256 = s.hasV256 := rfl
@[simp] theorem State.setErrCode_backendForce (s : State) (v : BitVec 8) :
    (s.setErrCode v).backendForce = s.backendForce := rfl
@[simp] theorem State.setErrCode_configured (s : State) (v : BitVec 8) :
    (s.setErrCode v).configured = s.configured := rfl
@[simp] theorem State.setErrCode_backend (s : State) (v : BitVec 8) : (s.setErrCode v).backend = s.backend := rfl
@[simp] theorem State.setErrCode_errCode (s : State) (v : BitVec 8) : (s.setErrCode v).errCode = v := rfl
@[simp] theorem State.setErrCode_rounds (s : State) (v : BitVec 8) : (s.setErrCode v).rounds = s.rounds := rfl
@[simp] theorem State.setErrCode_key (s : State) (v : BitVec 8) : (s.setErrCode v).key = s.key := rfl
@[simp] theorem State.setErrCode_streamLo (s : State) (v : BitVec 8) : (s.setErrCode v).streamLo = s.streamLo := rfl
@[simp] theorem State.setErrCode_streamHi (s : State) (v : BitVec 8) : (s.setErrCode v).streamHi = s.streamHi := rfl
@[simp] theorem State.setErrCode_ctrinLo (s : State) (v : BitVec 8) : (s.setErrCode v).ctrinLo = s.ctrinLo := rfl
@[simp] theorem State.setErrCode_ctrinHi (s : State) (v : BitVec 8) : (s.setErrCode v).ctrinHi = s.ctrinHi := rfl
@[simp] theorem State.setErrCode_counter (s : State) (v : BitVec 8) : (s.setErrCode v).counter = s.counter := rfl
@[simp] theorem State.setErrCode_activeKey (s : State) (v : BitVec 8) :
    (s.setErrCode v).activeKey = s.activeKey := rfl
@[simp] theorem State.setErrCode_activeStream (s : State) (v : BitVec 8) :
    (s.setErrCode v).activeStream = s.activeStream := rfl
@[simp] theorem State.setErrCode_activeRounds (s : State) (v : BitVec 8) :
    (s.setErrCode v).activeRounds = s.activeRounds := rfl
@[simp] theorem State.setErrCode_w (s : State) (v : BitVec 8) : (s.setErrCode v).w = s.w := rfl
@[simp] theorem State.setErrCode_out (s : State) (v : BitVec 8) : (s.setErrCode v).out = s.out := rfl
@[simp] theorem State.setErrCode_condition (s : State) (v : BitVec 8) :
    (s.setErrCode v).condition = s.condition := rfl
@[simp] theorem State.setErrCode_bus (s : State) (v : BitVec 8) : (s.setErrCode v).bus = s.bus := rfl
@[simp] theorem State.setErrCode_replies (s : State) (v : BitVec 8) : (s.setErrCode v).replies = s.replies := rfl

@[simp] theorem State.setW_hasV128 (s : State) (x : Mat) : (s.setW x).hasV128 = s.hasV128 := rfl
@[simp] theorem State.setW_hasV256 (s : State) (x : Mat) : (s.setW x).hasV256 = s.hasV256 := rfl
@[simp] theorem State.setW_backendForce (s : State) (x : Mat) : (s.setW x).backendForce = s.backendForce := rfl
@[simp] theorem State.setW_configured (s : State) (x : Mat) : (s.setW x).configured = s.configured := rfl
@[simp] theorem State.setW_backend (s : State) (x : Mat) : (s.setW x).backend = s.backend := rfl
@[simp] theorem State.setW_errCode (s : State) (x : Mat) : (s.setW x).errCode = s.errCode := rfl
@[simp] theorem State.setW_rounds (s : State) (x : Mat) : (s.setW x).rounds = s.rounds := rfl
@[simp] theorem State.setW_key (s : State) (x : Mat) : (s.setW x).key = s.key := rfl
@[simp] theorem State.setW_streamLo (s : State) (x : Mat) : (s.setW x).streamLo = s.streamLo := rfl
@[simp] theorem State.setW_streamHi (s : State) (x : Mat) : (s.setW x).streamHi = s.streamHi := rfl
@[simp] theorem State.setW_ctrinLo (s : State) (x : Mat) : (s.setW x).ctrinLo = s.ctrinLo := rfl
@[simp] theorem State.setW_ctrinHi (s : State) (x : Mat) : (s.setW x).ctrinHi = s.ctrinHi := rfl
@[simp] theorem State.setW_counter (s : State) (x : Mat) : (s.setW x).counter = s.counter := rfl
@[simp] theorem State.setW_activeKey (s : State) (x : Mat) : (s.setW x).activeKey = s.activeKey := rfl
@[simp] theorem State.setW_activeStream (s : State) (x : Mat) : (s.setW x).activeStream = s.activeStream := rfl
@[simp] theorem State.setW_activeRounds (s : State) (x : Mat) : (s.setW x).activeRounds = s.activeRounds := rfl
@[simp] theorem State.setW_w (s : State) (x : Mat) : (s.setW x).w = x := rfl
@[simp] theorem State.setW_out (s : State) (x : Mat) : (s.setW x).out = s.out := rfl
@[simp] theorem State.setW_condition (s : State) (x : Mat) : (s.setW x).condition = s.condition := rfl
@[simp] theorem State.setW_bus (s : State) (x : Mat) : (s.setW x).bus = s.bus := rfl
@[simp] theorem State.setW_replies (s : State) (x : Mat) : (s.setW x).replies = s.replies := rfl

@[simp] theorem State.setOut_hasV128 (s : State) (o : Buffer) : (s.setOut o).hasV128 = s.hasV128 := rfl
@[simp] theorem State.setOut_hasV256 (s : State) (o : Buffer) : (s.setOut o).hasV256 = s.hasV256 := rfl
@[simp] theorem State.setOut_backendForce (s : State) (o : Buffer) : (s.setOut o).backendForce = s.backendForce := rfl
@[simp] theorem State.setOut_configured (s : State) (o : Buffer) : (s.setOut o).configured = s.configured := rfl
@[simp] theorem State.setOut_backend (s : State) (o : Buffer) : (s.setOut o).backend = s.backend := rfl
@[simp] theorem State.setOut_errCode (s : State) (o : Buffer) : (s.setOut o).errCode = s.errCode := rfl
@[simp] theorem State.setOut_rounds (s : State) (o : Buffer) : (s.setOut o).rounds = s.rounds := rfl
@[simp] theorem State.setOut_key (s : State) (o : Buffer) : (s.setOut o).key = s.key := rfl
@[simp] theorem State.setOut_streamLo (s : State) (o : Buffer) : (s.setOut o).streamLo = s.streamLo := rfl
@[simp] theorem State.setOut_streamHi (s : State) (o : Buffer) : (s.setOut o).streamHi = s.streamHi := rfl
@[simp] theorem State.setOut_ctrinLo (s : State) (o : Buffer) : (s.setOut o).ctrinLo = s.ctrinLo := rfl
@[simp] theorem State.setOut_ctrinHi (s : State) (o : Buffer) : (s.setOut o).ctrinHi = s.ctrinHi := rfl
@[simp] theorem State.setOut_counter (s : State) (o : Buffer) : (s.setOut o).counter = s.counter := rfl
@[simp] theorem State.setOut_activeKey (s : State) (o : Buffer) : (s.setOut o).activeKey = s.activeKey := rfl
@[simp] theorem State.setOut_activeStream (s : State) (o : Buffer) : (s.setOut o).activeStream = s.activeStream := rfl
@[simp] theorem State.setOut_activeRounds (s : State) (o : Buffer) : (s.setOut o).activeRounds = s.activeRounds := rfl
@[simp] theorem State.setOut_w (s : State) (o : Buffer) : (s.setOut o).w = s.w := rfl
@[simp] theorem State.setOut_out (s : State) (o : Buffer) : (s.setOut o).out = o := rfl
@[simp] theorem State.setOut_condition (s : State) (o : Buffer) : (s.setOut o).condition = s.condition := rfl
@[simp] theorem State.setOut_bus (s : State) (o : Buffer) : (s.setOut o).bus = s.bus := rfl
@[simp] theorem State.setOut_replies (s : State) (o : Buffer) : (s.setOut o).replies = s.replies := rfl

@[simp] theorem State.setCounter_hasV128 (s : State) (c : DWord) : (s.setCounter c).hasV128 = s.hasV128 := rfl
@[simp] theorem State.setCounter_hasV256 (s : State) (c : DWord) : (s.setCounter c).hasV256 = s.hasV256 := rfl
@[simp] theorem State.setCounter_backendForce (s : State) (c : DWord) :
    (s.setCounter c).backendForce = s.backendForce := rfl
@[simp] theorem State.setCounter_configured (s : State) (c : DWord) :
    (s.setCounter c).configured = s.configured := rfl
@[simp] theorem State.setCounter_backend (s : State) (c : DWord) : (s.setCounter c).backend = s.backend := rfl
@[simp] theorem State.setCounter_errCode (s : State) (c : DWord) : (s.setCounter c).errCode = s.errCode := rfl
@[simp] theorem State.setCounter_rounds (s : State) (c : DWord) : (s.setCounter c).rounds = s.rounds := rfl
@[simp] theorem State.setCounter_key (s : State) (c : DWord) : (s.setCounter c).key = s.key := rfl
@[simp] theorem State.setCounter_streamLo (s : State) (c : DWord) : (s.setCounter c).streamLo = s.streamLo := rfl
@[simp] theorem State.setCounter_streamHi (s : State) (c : DWord) : (s.setCounter c).streamHi = s.streamHi := rfl
@[simp] theorem State.setCounter_ctrinLo (s : State) (c : DWord) : (s.setCounter c).ctrinLo = s.ctrinLo := rfl
@[simp] theorem State.setCounter_ctrinHi (s : State) (c : DWord) : (s.setCounter c).ctrinHi = s.ctrinHi := rfl
@[simp] theorem State.setCounter_counter (s : State) (c : DWord) : (s.setCounter c).counter = c := rfl
@[simp] theorem State.setCounter_activeKey (s : State) (c : DWord) : (s.setCounter c).activeKey = s.activeKey := rfl
@[simp] theorem State.setCounter_activeStream (s : State) (c : DWord) :
    (s.setCounter c).activeStream = s.activeStream := rfl
@[simp] theorem State.setCounter_activeRounds (s : State) (c : DWord) :
    (s.setCounter c).activeRounds = s.activeRounds := rfl
@[simp] theorem State.setCounter_w (s : State) (c : DWord) : (s.setCounter c).w = s.w := rfl
@[simp] theorem State.setCounter_out (s : State) (c : DWord) : (s.setCounter c).out = s.out := rfl
@[simp] theorem State.setCounter_condition (s : State) (c : DWord) : (s.setCounter c).condition = s.condition := rfl
@[simp] theorem State.setCounter_bus (s : State) (c : DWord) : (s.setCounter c).bus = s.bus := rfl
@[simp] theorem State.setCounter_replies (s : State) (c : DWord) : (s.setCounter c).replies = s.replies := rfl

@[simp] theorem State.setBackendForce_hasV128 (s : State) (v : BitVec 2) :
    (s.setBackendForce v).hasV128 = s.hasV128 := rfl
@[simp] theorem State.setBackendForce_hasV256 (s : State) (v : BitVec 2) :
    (s.setBackendForce v).hasV256 = s.hasV256 := rfl
@[simp] theorem State.setBackendForce_backendForce (s : State) (v : BitVec 2) :
    (s.setBackendForce v).backendForce = v := rfl
@[simp] theorem State.setBackendForce_configured (s : State) (v : BitVec 2) :
    (s.setBackendForce v).configured = s.configured := rfl
@[simp] theorem State.setBackendForce_backend (s : State) (v : BitVec 2) :
    (s.setBackendForce v).backend = s.backend := rfl
@[simp] theorem State.setBackendForce_errCode (s : State) (v : BitVec 2) :
    (s.setBackendForce v).errCode = s.errCode := rfl
@[simp] theorem State.setBackendForce_rounds (s : State) (v : BitVec 2) :
    (s.setBackendForce v).rounds = s.rounds := rfl
@[simp] theorem State.setBackendForce_key (s : State) (v : BitVec 2) : (s.setBackendForce v).key = s.key := rfl
@[simp] theorem State.setBackendForce_streamLo (s : State) (v : BitVec 2) :
    (s.setBackendForce v).streamLo = s.streamLo := rfl
@[simp] theorem State.setBackendForce_streamHi (s : State) (v : BitVec 2) :
    (s.setBackendForce v).streamHi = s.streamHi := rfl
@[simp] theorem State.setBackendForce_ctrinLo (s : State) (v : BitVec 2) :
    (s.setBackendForce v).ctrinLo = s.ctrinLo := rfl
@[simp] theorem State.setBackendForce_ctrinHi (s : State) (v : BitVec 2) :
    (s.setBackendForce v).ctrinHi = s.ctrinHi := rfl
@[simp] theorem State.setBackendForce_counter (s : State) (v : BitVec 2) :
    (s.setBackendForce v).counter = s.counter := rfl
@[simp] theorem State.setBackendForce_activeKey (s : State) (v : BitVec 2) :
    (s.setBackendForce v).activeKey = s.activeKey := rfl
@[simp] theorem State.setBackendForce_activeStream (s : State) (v : BitVec 2) :
    (s.setBackendForce v).activeStream = s.activeStream := rfl
@[simp] theorem State.setBackendForce_activeRounds (s : State) (v : BitVec 2) :
    (s.setBackendForce v).activeRounds = s.activeRounds := rfl
@[simp] theorem State.setBackendForce_w (s : State) (v : BitVec 2) : (s.setBackendForce v).w = s.w := rfl
@[simp] theorem State.setBackendForce_out (s : State) (v : BitVec 2) : (s.setBackendForce v).out = s.out := rfl
@[simp] theorem State.setBackendForce_condition (s : State) (v : BitVec 2) :
    (s.setBackendForce v).condition = s.condition := rfl
@[simp] theorem State.setBackendForce_bus (s : State) (v : BitVec 2) : (s.setBackendForce v).bus = s.bus := rfl
@[simp] theorem State.setBackendForce_replies (s : State) (v : BitVec 2) :
    (s.setBackendForce v).replies = s.replies := rfl

@[simp] theorem State.setRounds_hasV128 (s : State) (v : Word) : (s.setRounds v).hasV128 = s.hasV128 := rfl
@[simp] theorem State.setRounds_hasV256 (s : State) (v : Word) : (s.setRounds v).hasV256 = s.hasV256 := rfl
@[simp] theorem State.setRounds_backendForce (s : State) (v : Word) :
    (s.setRounds v).backendForce = s.backendForce := rfl
@[simp] theorem State.setRounds_configured (s : State) (v : Word) : (s.setRounds v).configured = s.configured := rfl
@[simp] theorem State.setRounds_backend (s : State) (v : Word) : (s.setRounds v).backend = s.backend := rfl
@[simp] theorem State.setRounds_errCode (s : State) (v : Word) : (s.setRounds v).errCode = s.errCode := rfl
@[simp] theorem State.setRounds_rounds (s : State) (v : Word) : (s.setRounds v).rounds = v := rfl
@[simp] theorem State.setRounds_key (s : State) (v : Word) : (s.setRounds v).key = s.key := rfl
@[simp] theorem State.setRounds_streamLo (s : State) (v : Word) : (s.setRounds v).streamLo = s.streamLo := rfl
@[simp] theorem State.setRounds_streamHi (s : State) (v : Word) : (s.setRounds v).streamHi = s.streamHi := rfl
@[simp] theorem State.setRounds_ctrinLo (s : State) (v : Word) : (s.setRounds v).ctrinLo = s.ctrinLo := rfl
@[simp] theorem State.setRounds_ctrinHi (s : State) (v : Word) : (s.setRounds v).ctrinHi = s.ctrinHi := rfl
@[simp] theorem State.setRounds_counter (s : State) (v : Word) : (s.setRounds v).counter = s.counter := rfl
@[simp] theorem State.setRounds_activeKey (s : State) (v : Word) : (s.setRounds v).activeKey = s.activeKey := rfl
@[simp] theorem State.setRounds_activeStream (s : State) (v : Word) :
    (s.setRounds v).activeStream = s.activeStream := rfl
@[simp] theorem State.setRounds_activeRounds (s : State) (v : Word) :
    (s.setRounds v).activeRounds = s.activeRounds := rfl
@[simp] theorem State.setRounds_w (s : State) (v : Word) : (s.setRounds v).w = s.w := rfl
@[simp] theorem State.setRounds_out (s : State) (v : Word) : (s.setRounds v).out = s.out := rfl
@[simp] theorem State.setRounds_condition (s : State) (v : Word) : (s.setRounds v).condition = s.condition := rfl
@[simp] theorem State.setRounds_bus (s : State) (v : Word) : (s.setRounds v).bus = s.bus := rfl
@[simp] theorem State.setRounds_replies (s : State) (v : Word) : (s.setRounds v).replies = s.replies := rfl

@[simp] theorem State.setKey_hasV128 (s : State) (k : Key) : (s.setKey k).hasV128 = s.hasV128 := rfl
@[simp] theorem State.setKey_hasV256 (s : State) (k : Key) : (s.setKey k).hasV256 = s.hasV256 := rfl
@[simp] theorem State.setKey_backendForce (s : State) (k : Key) : (s.setKey k).backendForce = s.backendForce := rfl
@[simp] theorem State.setKey_configured (s : State) (k : Key) : (s.setKey k).configured = s.configured := rfl
@[simp] theorem State.setKey_backend (s : State) (k : Key) : (s.setKey k).backend = s.backend := rfl
@[simp] theorem State.setKey_errCode (s : State) (k : Key) : (s.setKey k).errCode = s.errCode := rfl
@[simp] theorem State.setKey_rounds (s : State) (k : Key) : (s.setKey k).rounds = s.rounds := rfl
@[simp] theorem State.setKey_key (s : State) (k : Key) : (s.setKey k).key = k := rfl
@[simp] theorem State.setKey_streamLo (s : State) (k : Key) : (s.setKey k).streamLo = s.streamLo := rfl
@[simp] theorem State.setKey_streamHi (s : State) (k : Key) : (s.setKey k).streamHi = s.streamHi := rfl
@[simp] theorem State.setKey_ctrinLo (s : State) (k : Key) : (s.setKey k).ctrinLo = s.ctrinLo := rfl
@[simp] theorem State.setKey_ctrinHi (s : State) (k : Key) : (s.setKey k).ctrinHi = s.ctrinHi := rfl
@[simp] theorem State.setKey_counter (s : State) (k : Key) : (s.setKey k).counter = s.counter := rfl
@[simp] theorem State.setKey_activeKey (s : State) (k : Key) : (s.setKey k).activeKey = s.activeKey := rfl
@[simp] theorem State.setKey_activeStream (s : State) (k : Key) : (s.setKey k).activeStream = s.activeStream := rfl
@[simp] theorem State.setKey_activeRounds (s : State) (k : Key) : (s.setKey k).activeRounds = s.activeRounds := rfl
@[simp] theorem State.setKey_w (s : State) (k : Key) : (s.setKey k).w = s.w := rfl
@[simp] theorem State.setKey_out (s : State) (k : Key) : (s.setKey k).out = s.out := rfl
@[simp] theorem State.setKey_condition (s : State) (k : Key) : (s.setKey k).condition = s.condition := rfl
@[simp] theorem State.setKey_bus (s : State) (k : Key) : (s.setKey k).bus = s.bus := rfl
@[simp] theorem State.setKey_replies (s : State) (k : Key) : (s.setKey k).replies = s.replies := rfl

@[simp] theorem State.setStreamLo_hasV128 (s : State) (v : Word) : (s.setStreamLo v).hasV128 = s.hasV128 := rfl
@[simp] theorem State.setStreamLo_hasV256 (s : State) (v : Word) : (s.setStreamLo v).hasV256 = s.hasV256 := rfl
@[simp] theorem State.setStreamLo_backendForce (s : State) (v : Word) :
    (s.setStreamLo v).backendForce = s.backendForce := rfl
@[simp] theorem State.setStreamLo_configured (s : State) (v : Word) :
    (s.setStreamLo v).configured = s.configured := rfl
@[simp] theorem State.setStreamLo_backend (s : State) (v : Word) : (s.setStreamLo v).backend = s.backend := rfl
@[simp] theorem State.setStreamLo_errCode (s : State) (v : Word) : (s.setStreamLo v).errCode = s.errCode := rfl
@[simp] theorem State.setStreamLo_rounds (s : State) (v : Word) : (s.setStreamLo v).rounds = s.rounds := rfl
@[simp] theorem State.setStreamLo_key (s : State) (v : Word) : (s.setStreamLo v).key = s.key := rfl
@[simp] theorem State.setStreamLo_streamLo (s : State) (v : Word) : (s.setStreamLo v).streamLo = v := rfl
@[simp] theorem State.setStreamLo_streamHi (s : State) (v : Word) : (s.setStreamLo v).streamHi = s.streamHi := rfl
@[simp] theorem State.setStreamLo_ctrinLo (s : State) (v : Word) : (s.setStreamLo v).ctrinLo = s.ctrinLo := rfl
@[simp] theorem State.setStreamLo_ctrinHi (s : State) (v : Word) : (s.setStreamLo v).ctrinHi = s.ctrinHi := rfl
@[simp] theorem State.setStreamLo_counter (s : State) (v : Word) : (s.setStreamLo v).counter = s.counter := rfl
@[simp] theorem State.setStreamLo_activeKey (s : State) (v : Word) : (s.setStreamLo v).activeKey = s.activeKey := rfl
@[simp] theorem State.setStreamLo_activeStream (s : State) (v : Word) :
    (s.setStreamLo v).activeStream = s.activeStream := rfl
@[simp] theorem State.setStreamLo_activeRounds (s : State) (v : Word) :
    (s.setStreamLo v).activeRounds = s.activeRounds := rfl
@[simp] theorem State.setStreamLo_w (s : State) (v : Word) : (s.setStreamLo v).w = s.w := rfl
@[simp] theorem State.setStreamLo_out (s : State) (v : Word) : (s.setStreamLo v).out = s.out := rfl
@[simp] theorem State.setStreamLo_condition (s : State) (v : Word) : (s.setStreamLo v).condition = s.condition := rfl
@[simp] theorem State.setStreamLo_bus (s : State) (v : Word) : (s.setStreamLo v).bus = s.bus := rfl
@[simp] theorem State.setStreamLo_replies (s : State) (v : Word) : (s.setStreamLo v).replies = s.replies := rfl

@[simp] theorem State.setStreamHi_hasV128 (s : State) (v : Word) : (s.setStreamHi v).hasV128 = s.hasV128 := rfl
@[simp] theorem State.setStreamHi_hasV256 (s : State) (v : Word) : (s.setStreamHi v).hasV256 = s.hasV256 := rfl
@[simp] theorem State.setStreamHi_backendForce (s : State) (v : Word) :
    (s.setStreamHi v).backendForce = s.backendForce := rfl
@[simp] theorem State.setStreamHi_configured (s : State) (v : Word) :
    (s.setStreamHi v).configured = s.configured := rfl
@[simp] theorem State.setStreamHi_backend (s : State) (v : Word) : (s.setStreamHi v).backend = s.backend := rfl
@[simp] theorem State.setStreamHi_errCode (s : State) (v : Word) : (s.setStreamHi v).errCode = s.errCode := rfl
@[simp] theorem State.setStreamHi_rounds (s : State) (v : Word) : (s.setStreamHi v).rounds = s.rounds := rfl
@[simp] theorem State.setStreamHi_key (s : State) (v : Word) : (s.setStreamHi v).key = s.key := rfl
@[simp] theorem State.setStreamHi_streamLo (s : State) (v : Word) : (s.setStreamHi v).streamLo = s.streamLo := rfl
@[simp] theorem State.setStreamHi_streamHi (s : State) (v : Word) : (s.setStreamHi v).streamHi = v := rfl
@[simp] theorem State.setStreamHi_ctrinLo (s : State) (v : Word) : (s.setStreamHi v).ctrinLo = s.ctrinLo := rfl
@[simp] theorem State.setStreamHi_ctrinHi (s : State) (v : Word) : (s.setStreamHi v).ctrinHi = s.ctrinHi := rfl
@[simp] theorem State.setStreamHi_counter (s : State) (v : Word) : (s.setStreamHi v).counter = s.counter := rfl
@[simp] theorem State.setStreamHi_activeKey (s : State) (v : Word) : (s.setStreamHi v).activeKey = s.activeKey := rfl
@[simp] theorem State.setStreamHi_activeStream (s : State) (v : Word) :
    (s.setStreamHi v).activeStream = s.activeStream := rfl
@[simp] theorem State.setStreamHi_activeRounds (s : State) (v : Word) :
    (s.setStreamHi v).activeRounds = s.activeRounds := rfl
@[simp] theorem State.setStreamHi_w (s : State) (v : Word) : (s.setStreamHi v).w = s.w := rfl
@[simp] theorem State.setStreamHi_out (s : State) (v : Word) : (s.setStreamHi v).out = s.out := rfl
@[simp] theorem State.setStreamHi_condition (s : State) (v : Word) : (s.setStreamHi v).condition = s.condition := rfl
@[simp] theorem State.setStreamHi_bus (s : State) (v : Word) : (s.setStreamHi v).bus = s.bus := rfl
@[simp] theorem State.setStreamHi_replies (s : State) (v : Word) : (s.setStreamHi v).replies = s.replies := rfl

@[simp] theorem State.setCtrinLo_hasV128 (s : State) (v : Word) : (s.setCtrinLo v).hasV128 = s.hasV128 := rfl
@[simp] theorem State.setCtrinLo_hasV256 (s : State) (v : Word) : (s.setCtrinLo v).hasV256 = s.hasV256 := rfl
@[simp] theorem State.setCtrinLo_backendForce (s : State) (v : Word) :
    (s.setCtrinLo v).backendForce = s.backendForce := rfl
@[simp] theorem State.setCtrinLo_configured (s : State) (v : Word) : (s.setCtrinLo v).configured = s.configured := rfl
@[simp] theorem State.setCtrinLo_backend (s : State) (v : Word) : (s.setCtrinLo v).backend = s.backend := rfl
@[simp] theorem State.setCtrinLo_errCode (s : State) (v : Word) : (s.setCtrinLo v).errCode = s.errCode := rfl
@[simp] theorem State.setCtrinLo_rounds (s : State) (v : Word) : (s.setCtrinLo v).rounds = s.rounds := rfl
@[simp] theorem State.setCtrinLo_key (s : State) (v : Word) : (s.setCtrinLo v).key = s.key := rfl
@[simp] theorem State.setCtrinLo_streamLo (s : State) (v : Word) : (s.setCtrinLo v).streamLo = s.streamLo := rfl
@[simp] theorem State.setCtrinLo_streamHi (s : State) (v : Word) : (s.setCtrinLo v).streamHi = s.streamHi := rfl
@[simp] theorem State.setCtrinLo_ctrinLo (s : State) (v : Word) : (s.setCtrinLo v).ctrinLo = v := rfl
@[simp] theorem State.setCtrinLo_ctrinHi (s : State) (v : Word) : (s.setCtrinLo v).ctrinHi = s.ctrinHi := rfl
@[simp] theorem State.setCtrinLo_counter (s : State) (v : Word) : (s.setCtrinLo v).counter = s.counter := rfl
@[simp] theorem State.setCtrinLo_activeKey (s : State) (v : Word) : (s.setCtrinLo v).activeKey = s.activeKey := rfl
@[simp] theorem State.setCtrinLo_activeStream (s : State) (v : Word) :
    (s.setCtrinLo v).activeStream = s.activeStream := rfl
@[simp] theorem State.setCtrinLo_activeRounds (s : State) (v : Word) :
    (s.setCtrinLo v).activeRounds = s.activeRounds := rfl
@[simp] theorem State.setCtrinLo_w (s : State) (v : Word) : (s.setCtrinLo v).w = s.w := rfl
@[simp] theorem State.setCtrinLo_out (s : State) (v : Word) : (s.setCtrinLo v).out = s.out := rfl
@[simp] theorem State.setCtrinLo_condition (s : State) (v : Word) : (s.setCtrinLo v).condition = s.condition := rfl
@[simp] theorem State.setCtrinLo_bus (s : State) (v : Word) : (s.setCtrinLo v).bus = s.bus := rfl
@[simp] theorem State.setCtrinLo_replies (s : State) (v : Word) : (s.setCtrinLo v).replies = s.replies := rfl

@[simp] theorem State.setCtrinHi_hasV128 (s : State) (v : Word) : (s.setCtrinHi v).hasV128 = s.hasV128 := rfl
@[simp] theorem State.setCtrinHi_hasV256 (s : State) (v : Word) : (s.setCtrinHi v).hasV256 = s.hasV256 := rfl
@[simp] theorem State.setCtrinHi_backendForce (s : State) (v : Word) :
    (s.setCtrinHi v).backendForce = s.backendForce := rfl
@[simp] theorem State.setCtrinHi_configured (s : State) (v : Word) : (s.setCtrinHi v).configured = s.configured := rfl
@[simp] theorem State.setCtrinHi_backend (s : State) (v : Word) : (s.setCtrinHi v).backend = s.backend := rfl
@[simp] theorem State.setCtrinHi_errCode (s : State) (v : Word) : (s.setCtrinHi v).errCode = s.errCode := rfl
@[simp] theorem State.setCtrinHi_rounds (s : State) (v : Word) : (s.setCtrinHi v).rounds = s.rounds := rfl
@[simp] theorem State.setCtrinHi_key (s : State) (v : Word) : (s.setCtrinHi v).key = s.key := rfl
@[simp] theorem State.setCtrinHi_streamLo (s : State) (v : Word) : (s.setCtrinHi v).streamLo = s.streamLo := rfl
@[simp] theorem State.setCtrinHi_streamHi (s : State) (v : Word) : (s.setCtrinHi v).streamHi = s.streamHi := rfl
@[simp] theorem State.setCtrinHi_ctrinLo (s : State) (v : Word) : (s.setCtrinHi v).ctrinLo = s.ctrinLo := rfl
@[simp] theorem State.setCtrinHi_ctrinHi (s : State) (v : Word) : (s.setCtrinHi v).ctrinHi = v := rfl
@[simp] theorem State.setCtrinHi_counter (s : State) (v : Word) : (s.setCtrinHi v).counter = s.counter := rfl
@[simp] theorem State.setCtrinHi_activeKey (s : State) (v : Word) : (s.setCtrinHi v).activeKey = s.activeKey := rfl
@[simp] theorem State.setCtrinHi_activeStream (s : State) (v : Word) :
    (s.setCtrinHi v).activeStream = s.activeStream := rfl
@[simp] theorem State.setCtrinHi_activeRounds (s : State) (v : Word) :
    (s.setCtrinHi v).activeRounds = s.activeRounds := rfl
@[simp] theorem State.setCtrinHi_w (s : State) (v : Word) : (s.setCtrinHi v).w = s.w := rfl
@[simp] theorem State.setCtrinHi_out (s : State) (v : Word) : (s.setCtrinHi v).out = s.out := rfl
@[simp] theorem State.setCtrinHi_condition (s : State) (v : Word) : (s.setCtrinHi v).condition = s.condition := rfl
@[simp] theorem State.setCtrinHi_bus (s : State) (v : Word) : (s.setCtrinHi v).bus = s.bus := rfl
@[simp] theorem State.setCtrinHi_replies (s : State) (v : Word) : (s.setCtrinHi v).replies = s.replies := rfl

@[simp] theorem State.setActive_hasV128 (s : State) (k : Key) (sid : DWord) (r : Word) (b : Backend) :
    (s.setActive k sid r b).hasV128 = s.hasV128 := rfl
@[simp] theorem State.setActive_hasV256 (s : State) (k : Key) (sid : DWord) (r : Word) (b : Backend) :
    (s.setActive k sid r b).hasV256 = s.hasV256 := rfl
@[simp] theorem State.setActive_backendForce (s : State) (k : Key) (sid : DWord) (r : Word) (b : Backend) :
    (s.setActive k sid r b).backendForce = s.backendForce := rfl
@[simp] theorem State.setActive_configured (s : State) (k : Key) (sid : DWord) (r : Word) (b : Backend) :
    (s.setActive k sid r b).configured = true := rfl
@[simp] theorem State.setActive_backend (s : State) (k : Key) (sid : DWord) (r : Word) (b : Backend) :
    (s.setActive k sid r b).backend = some b := rfl
@[simp] theorem State.setActive_errCode (s : State) (k : Key) (sid : DWord) (r : Word) (b : Backend) :
    (s.setActive k sid r b).errCode = s.errCode := rfl
@[simp] theorem State.setActive_rounds (s : State) (k : Key) (sid : DWord) (r : Word) (b : Backend) :
    (s.setActive k sid r b).rounds = s.rounds := rfl
@[simp] theorem State.setActive_key (s : State) (k : Key) (sid : DWord) (r : Word) (b : Backend) :
    (s.setActive k sid r b).key = s.key := rfl
@[simp] theorem State.setActive_streamLo (s : State) (k : Key) (sid : DWord) (r : Word) (b : Backend) :
    (s.setActive k sid r b).streamLo = s.streamLo := rfl
@[simp] theorem State.setActive_streamHi (s : State) (k : Key) (sid : DWord) (r : Word) (b : Backend) :
    (s.setActive k sid r b).streamHi = s.streamHi := rfl
@[simp] theorem State.setActive_ctrinLo (s : State) (k : Key) (sid : DWord) (r : Word) (b : Backend) :
    (s.setActive k sid r b).ctrinLo = s.ctrinLo := rfl
@[simp] theorem State.setActive_ctrinHi (s : State) (k : Key) (sid : DWord) (r : Word) (b : Backend) :
    (s.setActive k sid r b).ctrinHi = s.ctrinHi := rfl
@[simp] theorem State.setActive_counter (s : State) (k : Key) (sid : DWord) (r : Word) (b : Backend) :
    (s.setActive k sid r b).counter = s.counter := rfl
@[simp] theorem State.setActive_activeKey (s : State) (k : Key) (sid : DWord) (r : Word) (b : Backend) :
    (s.setActive k sid r b).activeKey = k := rfl
@[simp] theorem State.setActive_activeStream (s : State) (k : Key) (sid : DWord) (r : Word) (b : Backend) :
    (s.setActive k sid r b).activeStream = sid := rfl
@[simp] theorem State.setActive_activeRounds (s : State) (k : Key) (sid : DWord) (r : Word) (b : Backend) :
    (s.setActive k sid r b).activeRounds = r := rfl
@[simp] theorem State.setActive_w (s : State) (k : Key) (sid : DWord) (r : Word) (b : Backend) :
    (s.setActive k sid r b).w = s.w := rfl
@[simp] theorem State.setActive_out (s : State) (k : Key) (sid : DWord) (r : Word) (b : Backend) :
    (s.setActive k sid r b).out = s.out := rfl
@[simp] theorem State.setActive_condition (s : State) (k : Key) (sid : DWord) (r : Word) (b : Backend) :
    (s.setActive k sid r b).condition = s.condition := rfl
@[simp] theorem State.setActive_bus (s : State) (k : Key) (sid : DWord) (r : Word) (b : Backend) :
    (s.setActive k sid r b).bus = s.bus := rfl
@[simp] theorem State.setActive_replies (s : State) (k : Key) (sid : DWord) (r : Word) (b : Backend) :
    (s.setActive k sid r b).replies = s.replies := rfl

@[simp] theorem State.setCondition_hasV128 (s : State) (c : Condition) : (s.setCondition c).hasV128 = s.hasV128 := rfl
@[simp] theorem State.setCondition_hasV256 (s : State) (c : Condition) : (s.setCondition c).hasV256 = s.hasV256 := rfl
@[simp] theorem State.setCondition_backendForce (s : State) (c : Condition) :
    (s.setCondition c).backendForce = s.backendForce := rfl
@[simp] theorem State.setCondition_configured (s : State) (c : Condition) :
    (s.setCondition c).configured = s.configured := rfl
@[simp] theorem State.setCondition_backend (s : State) (c : Condition) : (s.setCondition c).backend = s.backend := rfl
@[simp] theorem State.setCondition_errCode (s : State) (c : Condition) : (s.setCondition c).errCode = s.errCode := rfl
@[simp] theorem State.setCondition_rounds (s : State) (c : Condition) : (s.setCondition c).rounds = s.rounds := rfl
@[simp] theorem State.setCondition_key (s : State) (c : Condition) : (s.setCondition c).key = s.key := rfl
@[simp] theorem State.setCondition_streamLo (s : State) (c : Condition) :
    (s.setCondition c).streamLo = s.streamLo := rfl
@[simp] theorem State.setCondition_streamHi (s : State) (c : Condition) :
    (s.setCondition c).streamHi = s.streamHi := rfl
@[simp] theorem State.setCondition_ctrinLo (s : State) (c : Condition) : (s.setCondition c).ctrinLo = s.ctrinLo := rfl
@[simp] theorem State.setCondition_ctrinHi (s : State) (c : Condition) : (s.setCondition c).ctrinHi = s.ctrinHi := rfl
@[simp] theorem State.setCondition_counter (s : State) (c : Condition) : (s.setCondition c).counter = s.counter := rfl
@[simp] theorem State.setCondition_activeKey (s : State) (c : Condition) :
    (s.setCondition c).activeKey = s.activeKey := rfl
@[simp] theorem State.setCondition_activeStream (s : State) (c : Condition) :
    (s.setCondition c).activeStream = s.activeStream := rfl
@[simp] theorem State.setCondition_activeRounds (s : State) (c : Condition) :
    (s.setCondition c).activeRounds = s.activeRounds := rfl
@[simp] theorem State.setCondition_w (s : State) (c : Condition) : (s.setCondition c).w = s.w := rfl
@[simp] theorem State.setCondition_out (s : State) (c : Condition) : (s.setCondition c).out = s.out := rfl
@[simp] theorem State.setCondition_condition (s : State) (c : Condition) : (s.setCondition c).condition = c := rfl
@[simp] theorem State.setCondition_bus (s : State) (c : Condition) : (s.setCondition c).bus = s.bus := rfl
@[simp] theorem State.setCondition_replies (s : State) (c : Condition) : (s.setCondition c).replies = s.replies := rfl

@[simp] theorem State.setBus_hasV128 (s : State) (b : List HostEvent) : (s.setBus b).hasV128 = s.hasV128 := rfl
@[simp] theorem State.setBus_hasV256 (s : State) (b : List HostEvent) : (s.setBus b).hasV256 = s.hasV256 := rfl
@[simp] theorem State.setBus_backendForce (s : State) (b : List HostEvent) :
    (s.setBus b).backendForce = s.backendForce := rfl
@[simp] theorem State.setBus_configured (s : State) (b : List HostEvent) :
    (s.setBus b).configured = s.configured := rfl
@[simp] theorem State.setBus_backend (s : State) (b : List HostEvent) : (s.setBus b).backend = s.backend := rfl
@[simp] theorem State.setBus_errCode (s : State) (b : List HostEvent) : (s.setBus b).errCode = s.errCode := rfl
@[simp] theorem State.setBus_rounds (s : State) (b : List HostEvent) : (s.setBus b).rounds = s.rounds := rfl
@[simp] theorem State.setBus_key (s : State) (b : List HostEvent) : (s.setBus b).key = s.key := rfl
@[simp] theorem State.setBus_streamLo (s : State) (b : List HostEvent) : (s.setBus b).streamLo = s.streamLo := rfl
@[simp] theorem State.setBus_streamHi (s : State) (b : List HostEvent) : (s.setBus b).streamHi = s.streamHi := rfl
@[simp] theorem State.setBus_ctrinLo (s : State) (b : List HostEvent) : (s.setBus b).ctrinLo = s.ctrinLo := rfl
@[simp] theorem State.setBus_ctrinHi (s : State) (b : List HostEvent) : (s.setBus b).ctrinHi = s.ctrinHi := rfl
@[simp] theorem State.setBus_counter (s : State) (b : List HostEvent) : (s.setBus b).counter = s.counter := rfl
@[simp] theorem State.setBus_activeKey (s : State) (b : List HostEvent) : (s.setBus b).activeKey = s.activeKey := rfl
@[simp] theorem State.setBus_activeStream (s : State) (b : List HostEvent) :
    (s.setBus b).activeStream = s.activeStream := rfl
@[simp] theorem State.setBus_activeRounds (s : State) (b : List HostEvent) :
    (s.setBus b).activeRounds = s.activeRounds := rfl
@[simp] theorem State.setBus_w (s : State) (b : List HostEvent) : (s.setBus b).w = s.w := rfl
@[simp] theorem State.setBus_out (s : State) (b : List HostEvent) : (s.setBus b).out = s.out := rfl
@[simp] theorem State.setBus_condition (s : State) (b : List HostEvent) : (s.setBus b).condition = s.condition := rfl
@[simp] theorem State.setBus_bus (s : State) (b : List HostEvent) : (s.setBus b).bus = b := rfl
@[simp] theorem State.setBus_replies (s : State) (b : List HostEvent) : (s.setBus b).replies = s.replies := rfl

@[simp] theorem State.reply_hasV128 (s : State) (v : Word) : (s.reply v).hasV128 = s.hasV128 := rfl
@[simp] theorem State.reply_hasV256 (s : State) (v : Word) : (s.reply v).hasV256 = s.hasV256 := rfl
@[simp] theorem State.reply_backendForce (s : State) (v : Word) : (s.reply v).backendForce = s.backendForce := rfl
@[simp] theorem State.reply_configured (s : State) (v : Word) : (s.reply v).configured = s.configured := rfl
@[simp] theorem State.reply_backend (s : State) (v : Word) : (s.reply v).backend = s.backend := rfl
@[simp] theorem State.reply_errCode (s : State) (v : Word) : (s.reply v).errCode = s.errCode := rfl
@[simp] theorem State.reply_rounds (s : State) (v : Word) : (s.reply v).rounds = s.rounds := rfl
@[simp] theorem State.reply_key (s : State) (v : Word) : (s.reply v).key = s.key := rfl
@[simp] theorem State.reply_streamLo (s : State) (v : Word) : (s.reply v).streamLo = s.streamLo := rfl
@[simp] theorem State.reply_streamHi (s : State) (v : Word) : (s.reply v).streamHi = s.streamHi := rfl
@[simp] theorem State.reply_ctrinLo (s : State) (v : Word) : (s.reply v).ctrinLo = s.ctrinLo := rfl
@[simp] theorem State.reply_ctrinHi (s : State) (v : Word) : (s.reply v).ctrinHi = s.ctrinHi := rfl
@[simp] theorem State.reply_counter (s : State) (v : Word) : (s.reply v).counter = s.counter := rfl
@[simp] theorem State.reply_activeKey (s : State) (v : Word) : (s.reply v).activeKey = s.activeKey := rfl
@[simp] theorem State.reply_activeStream (s : State) (v : Word) : (s.reply v).activeStream = s.activeStream := rfl
@[simp] theorem State.reply_activeRounds (s : State) (v : Word) : (s.reply v).activeRounds = s.activeRounds := rfl
@[simp] theorem State.reply_w (s : State) (v : Word) : (s.reply v).w = s.w := rfl
@[simp] theorem State.reply_out (s : State) (v : Word) : (s.reply v).out = s.out := rfl
@[simp] theorem State.reply_condition (s : State) (v : Word) : (s.reply v).condition = s.condition := rfl
@[simp] theorem State.reply_bus (s : State) (v : Word) : (s.reply v).bus = s.bus := rfl
@[simp] theorem State.reply_replies (s : State) (v : Word) : (s.reply v).replies = s.replies ++ [v] := rfl

end Sys2Proof.Machine
end

