-- ==== Sys2Proof/Laws/Words.lean ====
section
/-! SUPPORT. Read-after-write and extensionality for the word arrays of Machine/Words.lean. -/

namespace Sys2Proof.Machine

theorem Quad.get_set {α : Type} (q : Quad α) (i j : Fin 4) (v : α) :
    (q.set i v).get j = if j = i then v else q.get j := by
  fin_cases i <;> fin_cases j <;> rfl

@[simp] theorem Quad.get_ofFn {α : Type} (f : Fin 4 → α) (i : Fin 4) : (Quad.ofFn f).get i = f i := by
  fin_cases i <;> rfl

@[simp] theorem Quad.get_map {α β : Type} (f : α → β) (q : Quad α) (i : Fin 4) :
    (q.map f).get i = f (q.get i) := by
  fin_cases i <;> rfl

@[simp] theorem Quad.get_zip {α β γ : Type} (f : α → β → γ) (p : Quad α) (q : Quad β) (i : Fin 4) :
    (Quad.zip f p q).get i = f (p.get i) (q.get i) := by
  fin_cases i <;> rfl

theorem Quad.ext_get {α : Type} {p q : Quad α} (h : ∀ i, p.get i = q.get i) : p = q := by
  have h0 := h 0
  have h1 := h 1
  have h2 := h 2
  have h3 := h 3
  cases p
  cases q
  simp_all [Quad.get]

theorem word_index (r l : Fin 4) : 4 * r.val + l.val < 16 := by omega

/-- Word 4r + l of a matrix is lane l of row r (R8). -/
theorem Mat.word_row_lane (x : Mat) (r l : Fin 4) :
    Mat.word x ⟨4 * r.val + l.val, word_index r l⟩ = (x.get r).get l := by
  fin_cases r <;> fin_cases l <;> rfl

theorem Mat.word_setWord (x : Mat) (i j : Fin 16) (v : Word) :
    Mat.word (Mat.setWord x i v) j = if j = i then v else Mat.word x j := by
  have split : j = i ↔ rowOf j = rowOf i ∧ laneOf j = laneOf i := by
    simp only [rowOf, laneOf, Fin.ext_iff]
    omega
  by_cases hr : rowOf j = rowOf i <;> by_cases hl : laneOf j = laneOf i <;>
    simp [Mat.word, Mat.setWord, Quad.get_set, split, hr, hl]

@[simp] theorem Mat.word_ofFn (f : Fin 16 → Word) (i : Fin 16) : Mat.word (Mat.ofFn f) i = f i := by
  fin_cases i <;> rfl

/-- Matrices with equal words are equal. -/
theorem Mat.ext_word {x y : Mat} (h : ∀ i, Mat.word x i = Mat.word y i) : x = y := by
  refine Quad.ext_get fun r => Quad.ext_get fun l => ?_
  rw [← Mat.word_row_lane, ← Mat.word_row_lane, h]

theorem Key.word_setWord (k : Key) (i j : Fin 8) (v : Word) :
    (k.setWord i v).word j = if j = i then v else k.word j := by
  fin_cases i <;> fin_cases j <;> rfl

/-- Keys with equal words are equal. -/
theorem Key.ext_word {k l : Key} (h : ∀ i, k.word i = l.word i) : k = l := by
  have low : k.lower = l.lower := Quad.ext_get fun i => by
    fin_cases i
    · exact h 0
    · exact h 1
    · exact h 2
    · exact h 3
  have up : k.upper = l.upper := Quad.ext_get fun i => by
    fin_cases i
    · exact h 4
    · exact h 5
    · exact h 6
    · exact h 7
  cases k
  cases l
  simp_all

theorem buffer_index (b : Fin 4) (j : Fin 16) : 16 * b.val + j.val < 64 := by omega

/-- OUT[16b + j] is word j of block b (10_state.md R34). -/
theorem Buffer.word_block (o : Buffer) (b : Fin 4) (j : Fin 16) :
    Buffer.word o ⟨16 * b.val + j.val, buffer_index b j⟩ = Mat.word (o.get b) j := by
  have hb : (16 * b.val + j.val) / 16 = b.val := by omega
  have hj : (16 * b.val + j.val) % 16 = j.val := by omega
  simp [Buffer.word, hb, hj]

/-- Buffers with equal words are equal. -/
theorem Buffer.ext_word {o p : Buffer} (h : ∀ i, Buffer.word o i = Buffer.word p i) : o = p := by
  refine Quad.ext_get fun b => Mat.ext_word fun j => ?_
  rw [← Buffer.word_block, ← Buffer.word_block, h]

end Sys2Proof.Machine
end

