-- ==== Sys2Proof/Laws/Bus.lean ====
section
/-! SUPPORT. The register map read both ways, and what a host transaction can do: one inversion lemma per shared
operation of Machine/Transact.lean and Machine/Operands.lean. -/

namespace Sys2Proof.Machine

/-- Every register stands at its own offset. -/
@[simp] theorem Reg.ofOffset_offset (r : Reg) : Reg.ofOffset r.offset = some r := by
  cases r with
  | key i => fin_cases i <;> rfl
  | w i => fin_cases i <;> rfl
  | out i => fin_cases i <;> rfl
  | _ => rfl

theorem Reg.ofOffset_eq_none_of_le {o : Nat} (h : 0x200 ≤ o) : Reg.ofOffset o = none := by
  unfold Reg.ofOffset
  simp only [show ¬(0x020 ≤ o ∧ o < 0x040) by omega, show ¬(0x080 ≤ o ∧ o < 0x0C0) by omega,
    show ¬(0x100 ≤ o ∧ o < 0x200) by omega, dite_false]
  by_cases h4 : o % 4 ≠ 0
  · rw [if_pos h4]
  · rw [if_neg h4]
    repeat rw [if_neg (by omega)]

theorem Reg.offset_of_ofOffset_window :
    ∀ o : Fin 512, ((Reg.ofOffset o.val).map Reg.offset).getD o.val = o.val := by
  decide +kernel

/-- A register found at an offset has that offset. -/
theorem Reg.offset_of_ofOffset {o : Nat} {r : Reg} (h : Reg.ofOffset o = some r) : r.offset = o := by
  by_cases hw : o < 0x200
  · simpa [h] using Reg.offset_of_ofOffset_window ⟨o, hw⟩
  · rw [Reg.ofOffset_eq_none_of_le (by omega)] at h
    cases h

theorem Reg.offset_lt (r : Reg) : r.offset < 0x200 := by
  cases r <;> simp only [Reg.offset] <;> omega

theorem Reg.offset_aligned (r : Reg) : r.offset % 4 = 0 := by
  cases r <;> simp only [Reg.offset] <;> omega

/-- What selectReg answers: a register exactly for a 32-bit access at its offset. -/
theorem selectReg_ok_iff (a : HostAccess) (r : Reg) :
    selectReg a = .ok r ↔ a.width = .bits32 ∧ a.offset = r.offset := by
  constructor
  · intro h
    unfold selectReg at h
    split at h
    · cases h
    · split at h
      · cases h
      · split at h
        · cases h
        · split at h
          · cases h
          · rename_i hw _ _ _ hr
            cases h
            have := Reg.offset_of_ofOffset hr
            refine ⟨by simpa using hw, by omega⟩
  · rintro ⟨hw, ho⟩
    have h1 := r.offset_lt
    have h2 := r.offset_aligned
    simp [selectReg, hw, ho, h2, h1]

/-- A legal access runs as the read or the write of its register. -/
theorem busAccess_owner {s : State} (hs : s.condition = .running) (r : Reg) (op : BusOp) :
    busAccess ⟨.owner, .bits32, r.offset, op⟩ s =
      match op with
      | .read => busRead r s
      | .write v => busWrite r v s := by
  have h := (selectReg_ok_iff ⟨.owner, .bits32, r.offset, op⟩ r).2 ⟨rfl, rfl⟩
  cases op <;> simp only [busAccess, hs, h]

/-- Everything an access that completes can have done. -/
theorem busAccess_next_cases {a : HostAccess} {s t : State} (h : busAccess a s = .next t) :
    s.condition = .running ∧ a.master = .owner ∧ a.width = .bits32 ∧ ∃ r : Reg, a.offset = r.offset ∧
      ((a.op = .read ∧ t = s.reply (readReg r s)) ∨
       (∃ v, a.op = .write v ∧ r.access = .writeOnly ∧ runCommand v s = .next t) ∨
       (∃ v, a.op = .write v ∧ r.access = .readWrite ∧ t = storeReg r v s)) := by
  obtain ⟨m, wd, o, op⟩ := a
  unfold busAccess at h
  split at h
  · cases h
  · cases h
  · rename_i hc
    split at h
    · cases h
    · rename_i hm
      split at h
      · cases h
      · rename_i r hr
        obtain ⟨hw, ho⟩ := (selectReg_ok_iff _ r).1 hr
        refine ⟨hc, hm, hw, r, ho, ?_⟩
        cases op with
        | read =>
          left
          simp only [busRead, Host.Outcome.next.injEq] at h
          exact ⟨rfl, h.symm⟩
        | write v =>
          right
          simp only [busWrite] at h
          split at h
          · cases h
          · rename_i ha
            exact .inl ⟨v, rfl, ha, h⟩
          · rename_i ha
            exact .inr ⟨v, rfl, ha, (Host.Outcome.next.inj h).symm⟩

/-- CMD is the one write-only register. -/
theorem Reg.eq_cmd_of_writeOnly {r : Reg} (h : r.access = .writeOnly) : r = .cmd := by
  cases r <;> simp_all [Reg.access]

/-- What a level of the reset input does, by cases. -/
theorem resetInput_cases (b : Bool) (s : State) :
    (b = true ∧ resetInput b s = s.setCondition .resetAsserted) ∨
    (b = false ∧ s.condition = .resetAsserted ∧ resetInput b s = s.resetRegs) ∨
    (b = false ∧ s.condition ≠ .resetAsserted ∧ resetInput b s = s) := by
  unfold resetInput
  cases b <;> cases s.condition <;> simp

/-- What a loss of power does, by cases. -/
theorem losePower_cases (s : State) :
    (s.condition = .resetAsserted ∧ losePower s = s) ∨
    (s.condition ≠ .resetAsserted ∧ losePower s = s.setCondition .powerLost) := by
  obtain ⟨_, _, _, _, _, _, _, _, _, _, _, _, _, _, _, _, _, _, c, _, _⟩ := s
  cases c <;> simp [losePower, State.setCondition]

/-- Everything a step that completes can have done: nothing (idle), a loss of power, a level of the reset input, a
read, a store, a command word. -/
theorem step_next_cases {s t : State} (h : step s = .next t) :
    (s.bus = [] ∧ t = s) ∨
    (∃ rest, s.bus = .powerLoss :: rest ∧ t = losePower (s.setBus rest)) ∨
    (∃ b rest, s.bus = .resetLine b :: rest ∧ t = resetInput b (s.setBus rest)) ∨
    (∃ r rest, s.condition = .running ∧ s.bus = readEvent r :: rest ∧
      t = (s.setBus rest).reply (readReg r (s.setBus rest))) ∨
    (∃ r v rest, s.condition = .running ∧ r.access = .readWrite ∧ s.bus = writeEvent r v :: rest ∧
      t = storeReg r v (s.setBus rest)) ∨
    (∃ v rest, s.condition = .running ∧ s.bus = writeEvent .cmd v :: rest ∧
      runCommand v (s.setBus rest) = .next t) := by
  unfold step at h
  split at h
  · rename_i hb
    exact .inl ⟨hb, (Host.Outcome.next.inj h).symm⟩
  · rename_i e rest hb
    right
    cases e with
    | powerLoss => exact .inl ⟨rest, hb, (Host.Outcome.next.inj h).symm⟩
    | resetLine b => exact .inr (.inl ⟨b, rest, hb, (Host.Outcome.next.inj h).symm⟩)
    | access a =>
      right
      right
      obtain ⟨m, w, o, op⟩ := a
      obtain ⟨hc, rfl, rfl, r, rfl, hh⟩ := busAccess_next_cases h
      rcases hh with ⟨rfl, ht⟩ | ⟨v, rfl, hr, ht⟩ | ⟨v, rfl, hr, ht⟩
      · exact .inl ⟨r, rest, hc, hb, ht⟩
      · obtain rfl := Reg.eq_cmd_of_writeOnly hr
        exact .inr (.inr ⟨v, rest, hc, hb, ht⟩)
      · exact .inr (.inl ⟨r, v, rest, hc, hr, hb, ht⟩)

/-- Everything a command word can do. -/
theorem runCommand_cases (v : Word) (s : State) :
    (∃ e, decodeWord v = .error e ∧ runCommand v s = .next (reject e s)) ∨
    (∃ i, decodeWord v = .ok i ∧ runCommand v s = exec i s) := by
  unfold runCommand
  cases decodeWord v with
  | error e => exact .inl ⟨e, rfl, rfl⟩
  | ok i => exact .inr ⟨i, rfl, rfl⟩

/-- What CONFIG's checks answer when they pass. -/
theorem configCheck_ok {s : State} {b : Backend} (h : configCheck s = .ok b) :
    (s.rounds = 4 ∨ s.rounds = 6 ∨ s.rounds = 10) ∧ select s.backendForce s.hasV128 s.hasV256 = some b := by
  unfold configCheck at h
  split at h
  · cases h
  · split at h
    · cases h
    · rename_i hr
      split at h
      · cases h
      · rename_i b' hb
        cases h
        exact ⟨not_not.mp hr, hb⟩

/-- What CONFIG's checks answer when one fails. -/
theorem configCheck_error {s : State} {e : CmdError} (h : configCheck s = .error e) :
    e = .roundsZero ∨ e = .roundsUnsupported ∨ e = .backendAbsent := by
  unfold configCheck at h
  repeat' split at h
  all_goals cases h
  all_goals simp

/-- CONFIG rejects with its first failing check or latches. -/
theorem execConfig_cases (s : State) :
    (∃ e, configCheck s = .error e ∧ execConfig s = .next (reject e s)) ∨
    (∃ b, configCheck s = .ok b ∧ execConfig s =
      .next (((s.setActive s.key (stagedStream s) s.rounds b).setCounter 0).setOut Buffer.zero)) := by
  unfold execConfig
  cases configCheck s with
  | error e => exact .inl ⟨e, rfl, rfl⟩
  | ok b => exact .inr ⟨b, rfl, rfl⟩

/-- A backend selected is one the build has. -/
theorem select_built {f : BitVec 2} {x y : Bool} {b : Backend} (h : select f x y = some b) :
    (b = .v128 → x = true) ∧ (b = .v256 → y = true) := by
  unfold select at h
  cases x <;> cases y <;> cases b <;> simp at h ⊢ <;> split_ifs at h <;> cases h

/-- ifConfigured has its effect or rejects. -/
theorem ifConfigured_cases (s : State) (f : State → State) :
    (s.configured = true ∧ ifConfigured s f = f s) ∨
    (s.configured = false ∧ ifConfigured s f = reject .notConfigured s) := by
  unfold ifConfigured
  cases s.configured <;> simp

/-- ifCounted has its effect or rejects. -/
theorem ifCounted_cases (n : Nat) (s : State) (f : State → State) :
    (n ≠ 0 ∧ ifCounted n s f = f s) ∨ (n = 0 ∧ ifCounted n s f = reject .countZero s) := by
  unfold ifCounted
  split <;> simp_all

/-- `aliased` is false exactly for pairwise distinct indices (R122). -/
theorem aliased_eq_false_iff (a b c d : Fin 16) :
    aliased a b c d = false ↔ a ≠ b ∧ a ≠ c ∧ a ≠ d ∧ b ≠ c ∧ b ≠ d ∧ c ≠ d := by
  simp [aliased, and_assoc]

/-- The state as a reset leaves it, field by field from the reset state. -/
theorem State.resetRegs_reset (s : State) (h : s.bus = []) (g : s.replies = []) :
    s.resetRegs = State.resetOf s.hasV128 s.hasV256 := by
  simp [State.resetRegs, h, g, State.resetOf]

/-- An access made at ENGINE_BASE plus an offset has that offset (R60). -/
theorem accessAt_offset (m : BusMaster) (wd : BusWidth) (o : Nat) (op : BusOp) :
    (accessAt m wd (Config.engineBase + o) op).offset = o := by
  simp [accessAt]

/-- An address is a multiple of 4 exactly when its offset is, ENGINE_BASE being a multiple of 0x200 (R61). -/
theorem accessAt_aligned_iff (m : BusMaster) (wd : BusWidth) (x : Nat) (op : BusOp) :
    (accessAt m wd x op).offset % 4 = 0 ↔ x % 4 = 0 := by
  simp only [accessAt, Config.engineBase]
  omega

end Sys2Proof.Machine
end

