-- ==== Sys2Proof/Laws/HostProtocol.lean ====
section
/-! SUPPORT. What host software can do to the engine: one lemma per host transaction of Machine/HostProtocol.lean, on a
running engine. -/

namespace Sys2Proof.Machine

@[simp] theorem andThen_next {α β : Type} (a : α) (f : α → Host.Outcome β Fault Refusal) :
    andThen (.next a) f = f a := rfl

@[simp] theorem andThen_fault {α β : Type} (r : Fault) (f : α → Host.Outcome β Fault Refusal) :
    andThen (.fault r) f = .fault r := rfl

@[simp] theorem andThen_refused {α β : Type} (r : Refusal) (f : α → Host.Outcome β Fault Refusal) :
    andThen (.refused r) f = .refused r := rfl

@[simp] theorem perform_nil (s : State) : perform [] s = .next s := rfl

@[simp] theorem perform_cons (e : HostEvent) (rest : List HostEvent) (s : State) :
    perform (e :: rest) s = andThen (busEvent e s) (perform rest) := rfl

/-- Events performed in two parts. -/
theorem perform_append (p q : List HostEvent) (s : State) :
    perform (p ++ q) s = andThen (perform p s) (perform q) := by
  induction p generalizing s with
  | nil => rfl
  | cons e rest ih =>
    simp only [List.cons_append, perform_cons]
    cases busEvent e s <;> simp [ih]

/-- A host read answers the register's word and appends it to the replies. -/
theorem hostRead_running {s : State} (hs : s.condition = .running) (r : Reg) :
    hostRead r s = .next (readReg r s, s.reply (readReg r s)) := by
  have h : busEvent (readEvent r) s = .next (s.reply (readReg r s)) := busAccess_owner hs r .read
  simp [hostRead, h]

/-- A host write to a read-write register stores its word. -/
theorem busEvent_writeEvent {s : State} (hs : s.condition = .running) {r : Reg} (hr : r.access = .readWrite)
    (v : Word) : busEvent (writeEvent r v) s = .next (storeReg r v s) := by
  have h : busEvent (writeEvent r v) s = busWrite r v s := busAccess_owner hs r (.write v)
  rw [h, busWrite, hr]

@[simp] theorem storeReg_condition (r : Reg) (v : Word) (s : State) : (storeReg r v s).condition = s.condition := by
  cases r <;> rfl

/-- A list of events that begins with a write to a read-write register. -/
theorem perform_write {s : State} (hs : s.condition = .running) {r : Reg} (hr : r.access = .readWrite) (v : Word)
    (rest : List HostEvent) : perform (writeEvent r v :: rest) s = perform rest (storeReg r v s) := by
  rw [perform_cons, busEvent_writeEvent hs hr, andThen_next]

/-- A word written to CMD runs. -/
theorem busEvent_cmd {s : State} (hs : s.condition = .running) (v : Word) :
    busEvent (writeEvent .cmd v) s = runCommand v s :=
  busAccess_owner hs .cmd (.write v)

/-- STATUS.ERRCODE as the host reads it (10_state.md R25). -/
theorem statusWord_errCode (s : State) : (statusWord s).extractLsb' 8 8 = s.errCode := by
  apply BitVec.eq_of_toNat_eq
  have h1 := Bool.toNat_lt s.configured
  have h2 := Bool.toNat_lt (errFlag s)
  have h3 : backendField s.backend < 4 := by
    rcases s.backend with _ | b
    · decide
    · cases b <;> decide
  have h4 := s.errCode.isLt
  simp only [statusWord, BitVec.extractLsb'_toNat, BitVec.toNat_ofNat, Nat.shiftRight_eq_div_pow]
  omega

/-- STATUS.CONFIGURED as the host reads it (10_state.md R25). -/
theorem statusWord_configured (s : State) :
    (statusWord s).extractLsb' 0 1 = 1 ↔ s.configured = true := by
  have h1 := Bool.toNat_lt s.configured
  have h : ((statusWord s).extractLsb' 0 1).toNat = s.configured.toNat := by
    simp only [statusWord, BitVec.extractLsb'_toNat, BitVec.toNat_ofNat, Nat.shiftRight_eq_div_pow]
    omega
  rw [← BitVec.toNat_inj, h]
  cases s.configured <;> simp

/-- What the check that ends a construction answers (44_host_protocol.md R231). -/
theorem checkConstructed_running {s : State} (hs : s.condition = .running) :
    checkConstructed s =
      .next (if s.errCode = 0 ∧ s.configured = true then some Cursor.fresh else none,
        s.reply (statusWord s)) := by
  simp only [checkConstructed, hostRead_running hs, andThen_next, readReg, statusWord_errCode,
    statusWord_configured]

theorem State.setKey_setKey (s : State) (k j : Key) : (s.setKey k).setKey j = s.setKey j := rfl

/-- Writing every word of a key gives that key. -/
theorem Key.setWord_all (j k : Key) :
    (((((((j.setWord 0 (k.word 0)).setWord 1 (k.word 1)).setWord 2 (k.word 2)).setWord 3 (k.word 3)).setWord 4
      (k.word 4)).setWord 5 (k.word 5)).setWord 6 (k.word 6)).setWord 7 (k.word 7) = k := by
  obtain ⟨⟨_, _, _, _⟩, _, _, _, _⟩ := k
  rfl

/-- The eight writes of LDKEY stage the key (30_encoding.md R100). -/
theorem perform_ldKey {s : State} (hs : s.condition = .running) (k : Key) (rest : List HostEvent) :
    perform (ldKey k ++ rest) s = perform rest (s.setKey k) := by
  have h : ldKey k = [writeEvent (.key 0) (k.word 0), writeEvent (.key 1) (k.word 1), writeEvent (.key 2) (k.word 2),
      writeEvent (.key 3) (k.word 3), writeEvent (.key 4) (k.word 4), writeEvent (.key 5) (k.word 5),
      writeEvent (.key 6) (k.word 6), writeEvent (.key 7) (k.word 7)] := rfl
  rw [h]
  simp only [List.cons_append, List.nil_append]
  rw [perform_write hs rfl, perform_write (by simp [hs]) rfl, perform_write (by simp [hs]) rfl,
    perform_write (by simp [hs]) rfl, perform_write (by simp [hs]) rfl, perform_write (by simp [hs]) rfl,
    perform_write (by simp [hs]) rfl, perform_write (by simp [hs]) rfl]
  refine congrArg (perform rest) ?_
  simp only [storeReg, State.setKey_key, State.setKey_setKey]
  exact congrArg s.setKey (Key.setWord_all s.key k)

/-- The two writes of LDSTREAM stage the stream id (30_encoding.md R100). -/
theorem perform_ldStream {s : State} (hs : s.condition = .running) (sid : DWord) (rest : List HostEvent) :
    perform (ldStream sid ++ rest) s = perform rest ((s.setStreamLo (lo32 sid)).setStreamHi (hi32 sid)) := by
  simp only [ldStream, List.cons_append, List.nil_append]
  rw [perform_write hs rfl, perform_write (by simp [hs]) rfl]
  rfl

end Sys2Proof.Machine
end

