-- ==== Sys2Proof/Laws/PerInstr.lean ====
section
/-! SUPPORT. Per-instruction family EncodedRow: the word of a command carries its opcode in bits [7:0] and has a
clear reserved field (30_encoding.md R91 to R95). -/

namespace Sys2Proof.Laws.EncodedRow

/-- OP and the format of a command's row (R95). -/
def row : Sys2Proof.Instr → Nat × Sys2Proof.Format
  | .nop => (0x00, .z)
  | .config => (0x01, .z)
  | .generate => (0x02, .z)
  | .regenerate => (0x03, .z)
  | .setctr => (0x04, .z)
  | .clrerr => (0x05, .z)
  | .loadinit => (0x08, .z)
  | .qround _ _ _ _ => (0x10, .q)
  | .colround => (0x11, .z)
  | .diaground => (0x12, .z)
  | .dround => (0x13, .z)
  | .perm _ => (0x14, .n)
  | .blockfn _ => (0x15, .n)

/-- The encoded word has the row's OP and a clear reserved field. -/
def Statement (i : Sys2Proof.Instr) : Prop :=
  (Sys2Proof.opField (Sys2Proof.encode i)).toNat = (row i).1 ∧
    (row i).2.reservedClear (Sys2Proof.encode i) = true

/-- A format N word has its opcode and a clear reserved field. -/
theorem encodeN_row (op : BitVec 8) (n : Nat) :
    (opField (encodeN op n)).toNat = op.toNat ∧ Format.n.reservedClear (encodeN op n) = true := by
  have ho := op.isLt
  have hn : n % 256 < 256 := Nat.mod_lt _ (by omega)
  rw [opField_toNat, reservedClear_n, encodeN_toNat]
  omega

theorem nop : Statement .nop := ⟨rfl, rfl⟩
theorem config : Statement .config := ⟨rfl, rfl⟩
theorem generate : Statement .generate := ⟨rfl, rfl⟩
theorem regenerate : Statement .regenerate := ⟨rfl, rfl⟩
theorem setctr : Statement .setctr := ⟨rfl, rfl⟩
theorem clrerr : Statement .clrerr := ⟨rfl, rfl⟩
theorem loadinit : Statement .loadinit := ⟨rfl, rfl⟩
theorem qround (a b c d : Fin 16) : Statement (.qround a b c d) := by
  show (opField (encodeQ 0x10 a b c d)).toNat = 0x10 ∧ Format.q.reservedClear (encodeQ 0x10 a b c d) = true
  rw [opField_toNat, reservedClear_q, encodeQ_toNat, show (0x10 : BitVec 8).toNat = 0x10 from rfl]
  omega
theorem colround : Statement .colround := ⟨rfl, rfl⟩
theorem diaground : Statement .diaground := ⟨rfl, rfl⟩
theorem dround : Statement .dround := ⟨rfl, rfl⟩
theorem perm (n : Nat) : Statement (.perm n) := encodeN_row 0x14 n
theorem blockfn (n : Nat) : Statement (.blockfn n) := encodeN_row 0x15 n

end Sys2Proof.Laws.EncodedRow
end

