-- ==== Sys2Proof/Tests/Slice0.lean ====
section
/-! SUPPORT. The model's own tests: ill-formed commands, decoding of words written out from 30_encoding.md, one step
per command on the vectors of 95_test_vectors.md, and for every statement with hypotheses a witness that meets them. -/

namespace Sys2Proof.Machine.Tests

/-! Well-formedness: the one check is that a count fits its 8-bit field (30_encoding.md R94). -/

theorem test_wellFormed_refuses_perm_256 : (Instr.perm 256).wellFormed = false := by decide

theorem test_wellFormed_refuses_blockfn_256 : (Instr.blockfn 256).wellFormed = false := by decide

theorem test_wellFormed_accepts_the_rest :
    ∀ i ∈ [Instr.nop, .config, .generate, .regenerate, .setctr, .clrerr, .loadinit, .qround 15 15 15 15, .colround,
      .diaground, .dround, .perm 0, .perm 255, .blockfn 0, .blockfn 255], i.wellFormed = true := by decide

/-! Decoding, one word per constructor written out from the fields of 30_encoding.md R91 to R95: reserved field,
operands, opcode. -/

theorem test_decode_nop : decodeWord 0b000000000000000000000000_00000000 = .ok .nop := by decide

theorem test_decode_config : decodeWord 0b000000000000000000000000_00000001 = .ok .config := by decide

theorem test_decode_generate : decodeWord 0b000000000000000000000000_00000010 = .ok .generate := by decide

theorem test_decode_regenerate : decodeWord 0b000000000000000000000000_00000011 = .ok .regenerate := by decide

theorem test_decode_setctr : decodeWord 0b000000000000000000000000_00000100 = .ok .setctr := by decide

theorem test_decode_clrerr : decodeWord 0b000000000000000000000000_00000101 = .ok .clrerr := by decide

theorem test_decode_loadinit : decodeWord 0b000000000000000000000000_00001000 = .ok .loadinit := by decide

/-- d = 13, c = 8, b = 7, a = 2. -/
theorem test_decode_qround : decodeWord 0b00000000_1101_1000_0111_0010_00010000 = .ok (.qround 2 7 8 13) := by
  decide +kernel

theorem test_decode_colround : decodeWord 0b000000000000000000000000_00010001 = .ok .colround := by decide

theorem test_decode_diaground : decodeWord 0b000000000000000000000000_00010010 = .ok .diaground := by decide

theorem test_decode_dround : decodeWord 0b000000000000000000000000_00010011 = .ok .dround := by decide

theorem test_decode_perm : decodeWord 0b0000000000000000_00001010_00010100 = .ok (.perm 10) := by decide

theorem test_decode_blockfn : decodeWord 0b0000000000000000_11111111_00010101 = .ok (.blockfn 255) := by decide

/-- 30_encoding.md R97, 95_test_vectors.md 2.2 and 3.5: unassigned opcodes, then reserved bits; 0x00010014 is
RESERVED_NZ although its count is 0 too. -/
theorem test_decode_rejections :
    (∀ w ∈ [0x00000006, 0x000000FF], decodeWord (BitVec.ofNat 32 w) = .error .illegalOp) ∧
    ∀ w ∈ [0x00000102, 0x80000000, 0x00010011, 0x01000010, 0x00010014],
      decodeWord (BitVec.ofNat 32 w) = .error .reservedNz := by
  decide +kernel

/-! One step per command. -/

/-- The state an outcome carries; the reset state of the smallest build when there is none. -/
def stateOf (o : Host.Outcome State Fault Refusal) : State :=
  match o with
  | .next t => t
  | .fault _ => State.resetOf false false
  | .refused _ => State.resetOf false false

/-- The state after one step that executes a command word. -/
def run1 (w : Nat) (s : State) : State := stateOf (step (s.withFetchWord 32 w))

/-- The state after a list of host events. -/
def runAll (es : List HostEvent) (s : State) : State := stateOf (perform es s)

/-- W[i] = i on an engine after reset (95_test_vectors.md 2.2). -/
def indexed : State := { State.resetOf false false with w := Mat.ofFn fun i => BitVec.ofNat 32 i.val }

/-- The default seed configured (95_test_vectors.md 3.4) on a bound datapath, with a counter. -/
def seeded (b : Backend) (c : DWord) : State :=
  { State.resetOf true true with configured := true, backend := some b, activeRounds := 10, counter := c }

/-- The seeded engine with a list of host events pending. -/
def pending (es : List HostEvent) : State := { seeded .v256 0 with bus := es }

/-- 95_test_vectors.md 3.5: ERRCODE = 4 stays 4. -/
theorem test_nop_keeps_errcode :
    run1 0x00000000 { indexed with errCode := 4 } = { indexed with errCode := 4 } := by decide

/-- 95_test_vectors.md 3.5: ERRCODE = 4 is cleared, ERR with it. -/
theorem test_clrerr_clears :
    readReg .status { indexed with errCode := 4 } = 0x00000408 ∧
    readReg .status (run1 0x00000005 { indexed with errCode := 4 }) = 0x00000000 := by decide

/-- 95_test_vectors.md 3.4: STATUS after CONFIG and its rejections, per build and per CTRL and ROUNDS written. -/
theorem test_config_status :
    [(false, false), (true, false), (false, true), (true, true)].map
      (fun b => readReg .status (run1 0x00000001 (State.resetOf b.1 b.2))) = [0x3, 0x5, 0x7, 0x7] ∧
    [(0 : Word), 8, 20, 0xFFFFFFFF].map
      (fun r => readReg .status (run1 0x00000001 { State.resetOf true true with rounds := r })) =
      [0x308, 0x408, 0x408, 0x408] ∧
    readReg .status (run1 0x00000001 { State.resetOf true false with backendForce := 3 }) = 0x508 ∧
    readReg .status (run1 0x00000001 { State.resetOf true true with backendForce := 1 }) = 0x3 := by decide +kernel

/-- 95_test_vectors.md 3.4: CONFIG at C = 8 clears C and leaves W; rejected (ROUNDS = 5) it leaves C and AR. -/
theorem test_config_clears_or_leaves :
    (run1 0x00000001 { seeded .v128 8 with w := indexed.w }).counter = 0 ∧
    (run1 0x00000001 { seeded .v128 8 with w := indexed.w }).w = indexed.w ∧
    (run1 0x00000001 { seeded .v128 8 with rounds := 5 }).counter = 8 ∧
    (run1 0x00000001 { seeded .v128 8 with rounds := 5 }).activeRounds = 10 := by decide

/-- 95_test_vectors.md 3.2: the carry of the counter into word 13, on the software datapath. -/
theorem test_generate_carries_on_sw :
    let t := run1 0x00000002 (seeded .sw 0xFFFFFFFF)
    Buffer.word t.out 0 = 0x09cde4ac ∧ Buffer.word t.out 16 = 0x3a1db43d ∧ Buffer.word t.out 32 = 0xeff6f046 ∧
      Buffer.word t.out 48 = 0x9388b189 ∧ t.counter = 0x100000003 := by decide +kernel

/-- 95_test_vectors.md 1.4: the wrap of the counter, on the 256-bit datapath. -/
theorem test_generate_wraps_on_v256 :
    let t := run1 0x00000002 (seeded .v256 0xFFFFFFFFFFFFFFFF)
    Buffer.word t.out 0 = 0xd88c91d7 ∧ Buffer.word t.out 15 = 0x8976b107 ∧ Buffer.word t.out 16 = 0xade0b876 ∧
      Buffer.word t.out 32 = 0xbee7079f ∧ Buffer.word t.out 48 = 0xe6a0092d ∧ t.counter = 3 := by decide +kernel

/-- 95_test_vectors.md 3.4: blocks 4 to 7, C stays 4, on the 128-bit datapath. -/
theorem test_regenerate_on_v128 :
    let t := run1 0x00000003 (seeded .v128 4)
    Buffer.word t.out 0 = 0x7488a6e5 ∧ Buffer.word t.out 16 = 0xa32510e0 ∧ Buffer.word t.out 32 = 0x09f49ef2 ∧
      Buffer.word t.out 48 = 0x4db7aaed ∧ t.counter = 4 := by decide +kernel

/-- 95_test_vectors.md 3.4: right after reset the four keystream commands are NOT_CONFIGURED. -/
theorem test_keystream_commands_need_config :
    ∀ w ∈ [0x02, 0x03, 0x04, 0x08], readReg .status (run1 w (State.resetOf true true)) = 0x00000608 := by decide

/-- 95_test_vectors.md P2: the staged halves become the counter. -/
theorem test_setctr_joins_halves :
    (run1 0x00000004 { seeded .sw 0 with ctrinHi := 0x09000000, ctrinLo := 1 }).counter = 0x0900000000000001 := by
  decide

/-- 95_test_vectors.md 3.4: the initial matrix of scenario 1. -/
theorem test_loadinit_scenario1 :
    (run1 0x00000008 { seeded .sw 0x0900000000000001 with
      activeKey := ⟨⟨0x03020100, 0x07060504, 0x0b0a0908, 0x0f0e0d0c⟩, ⟨0x13121110, 0x17161514, 0x1b1a1918, 0x1f1e1d1c⟩⟩
      activeStream := 0x4a000000 }).w =
    ⟨⟨0x61707865, 0x3320646e, 0x79622d32, 0x6b206574⟩, ⟨0x03020100, 0x07060504, 0x0b0a0908, 0x0f0e0d0c⟩,
     ⟨0x13121110, 0x17161514, 0x1b1a1918, 0x1f1e1d1c⟩, ⟨0x00000001, 0x09000000, 0x4a000000, 0x00000000⟩⟩ := by decide

/-- 95_test_vectors.md 2.1, QROUND 2, 7, 8, 13 and QROUND 15, 14, 13, 12. The second vector's four values are QR(15, 14,
13, 12), but the file prints them against the indices in reverse; 40_permutation_core.md R122 and R132 give A' to W[a],
and the model follows the rules (log 21). -/
theorem test_qround_any_indices :
    (let t := run1 0x00D87210 indexed
     Mat.word t.w 2 = 0x4000f009 ∧ Mat.word t.w 7 = 0x7a7ca422 ∧ Mat.word t.w 8 = 0x04f40948 ∧
       Mat.word t.w 13 = 0x04f00940 ∧ Mat.word t.w 12 = 12) ∧
    (let t := run1 0x00CDEF10 indexed
     Mat.word t.w 15 = 0x1000301e ∧ Mat.word t.w 14 = 0xa0970e00 ∧ Mat.word t.w 13 = 0x11411e1d ∧
       Mat.word t.w 12 = 0x11301e10 ∧ Mat.word t.w 11 = 11) := by decide

/-- 95_test_vectors.md 2.1: QROUND 0, 0, 1, 2 is rejected and leaves W. -/
theorem test_qround_alias : run1 0x00210010 indexed = { indexed with errCode := 0x07 } := by decide

/-- 95_test_vectors.md 2.2. -/
theorem test_colround :
    (run1 0x00000011 indexed).w =
    ⟨⟨0x8000c004, 0xb000c006, 0x6000c008, 0x5000c00a⟩, ⟨0x64624444, 0xe5e35cdd, 0x63643533, 0xe2e52daa⟩,
     ⟨0x08c80488, 0x0bcb06b9, 0x06c6086a, 0x05c50a5b⟩, ⟨0x08c00480, 0x0bc006b0, 0x06c00860, 0x05c00a50⟩⟩ := by decide

/-- 95_test_vectors.md 2.2. -/
theorem test_diaground :
    (run1 0x00000012 indexed).w =
    ⟨⟨0xa000f005, 0xb000d007, 0x4000f009, 0x9000d007⟩, ⟨0xecebcccc, 0x7d7ad555, 0xedebdddd, 0x7a7ca422⟩,
     ⟨0x04f40948, 0x09d90799, 0x0afa05aa, 0x0bdb07bb⟩, ⟨0x0bd007b0, 0x04f00940, 0x09d00790, 0x0af005a0⟩⟩ := by decide

/-- 95_test_vectors.md 2.2. -/
theorem test_dround :
    (run1 0x00000013 indexed).w =
    ⟨⟨0xa9295c6a, 0xb471be7a, 0x38e65ec4, 0x74348b87⟩, ⟨0xf1ad76c6, 0x7b44627b, 0x946682b0, 0xf12f4910⟩,
     ⟨0xd7e22f80, 0x3232ddd4, 0xb5b3b74d, 0xc0240444⟩, ⟨0xc8a5de45, 0xe417e1d3, 0x1a392478, 0x983c4ebf⟩⟩ := by
  decide +kernel

/-- 95_test_vectors.md 2.2: PERM 255, the largest count. -/
theorem test_perm_255 :
    let t := run1 0x0000FF14 indexed
    Mat.word t.w 0 = 0x838a463c ∧ Mat.word t.w 6 = 0xc7cd6c77 ∧ Mat.word t.w 15 = 0x2536cd5f := by decide +kernel

/-- 95_test_vectors.md 2.2: BLOCKFN 10 adds the start matrix. -/
theorem test_blockfn_10 :
    let t := run1 0x00000A15 indexed
    Mat.word t.w 0 = 0x48e90081 ∧ Mat.word t.w 1 = 0xf390518d ∧ Mat.word t.w 15 = 0x94255e2f := by decide +kernel

/-- 95_test_vectors.md 2.2: a count of 0 is rejected. -/
theorem test_counts_of_zero :
    run1 0x00000014 indexed = { indexed with errCode := 0x08 } ∧
    run1 0x00000015 indexed = { indexed with errCode := 0x08 } := by decide

/-! Host accesses (95_test_vectors.md 3.5) and the reference cursor. -/

/-- The reads of the constant and composed registers; CTRL keeps two bits. -/
theorem test_register_reads :
    (runAll [readEvent .id, readEvent .caps, writeEvent .ctrl 0xFFFFFFFD, readEvent .ctrl, readEvent .cmd]
      (State.resetOf true false)).replies = [0x43433230, 0x3, 0x1, 0] := by decide

/-- What a single access of the owner at an offset ends in, the host's queue aside. -/
def accessEnd (wd : BusWidth) (o : Nat) (op : BusOp) : Option Fault :=
  match busAccess ⟨.owner, wd, o, op⟩ (seeded .sw 0) with
  | .next _ => none
  | .fault f => some f
  | .refused _ => none

/-- Unmapped offsets, read-only registers (OUT0, STATUS, CTR_LO, ID), narrow and misaligned accesses. -/
theorem test_bus_errors :
    (∀ o ∈ [0x018, 0x05C, 0x0C0], accessEnd .bits32 o .read = some .busUnmapped) ∧
    (∀ o ∈ [0x100, 0x00C, 0x050, 0x000], accessEnd .bits32 o (.write 0) = some .busReadOnly) ∧
    accessEnd .bits8 0x020 .read = some .busWidth ∧ accessEnd .bits16 0x020 .read = some .busWidth ∧
    accessEnd .bits32 0x022 .read = some .busMisaligned ∧ accessEnd .bits32 0x020 .read = none := by decide

/-- The cursor a construction gives, if any. -/
def cursorOf (o : Host.Outcome (Option Cursor × State) Fault Refusal) : Option Cursor :=
  match o with
  | .next p => p.1
  | .fault _ => none
  | .refused _ => none

/-- 44_host_protocol.md R231: the check passes for the default and for R = 4; it fails for R = 20 (95_test_vectors.md
3.4) and where an earlier rejection is still recorded. -/
theorem test_construction_is_checked :
    cursorOf (constructDefault (State.resetOf false true)) = some Cursor.fresh ∧
    cursorOf (construct Key.zero 1 4 (State.resetOf true false)) = some Cursor.fresh ∧
    cursorOf (construct Key.zero 1 20 (State.resetOf true false)) = none ∧
    cursorOf (construct Key.zero 1 4 { State.resetOf true false with errCode := 6 }) = none := by decide +kernel

/-- 70_reset_and_hazards.md R280, 60_exceptions.md R264: power lost while reset is asserted, then reset deasserted. -/
theorem test_power_loss_during_reset :
    runAll [.resetLine true, .powerLoss, .resetLine false] (seeded .sw 7) = State.resetOf true true ∧
    runAll [.powerLoss, .resetLine true, .resetLine false] (seeded .sw 7) = State.resetOf true true := by decide

/-- 95_test_vectors.md 1.1: scenario 1, seeded and sought by the pseudo-instructions of 30_encoding.md R100 from a key of
bytes 00 to 1f. -/
theorem test_scenario1_first_word :
    Buffer.word (runAll (seed (keyOfBytes (Vector.ofFn fun i => BitVec.ofNat 8 i.val)) 0x4a000000 10 ++
      seekBlk 0x0900000000000001) (State.resetOf true true)).out 0 = 0xe4e7f110 := by decide +kernel

/-! Witnesses: for every statement with hypotheses, a state and operands that meet them, at the ends of each range a
clause names. -/

/-- An engine after reset with the given events pending and a condition. -/
def held (c : Condition) (es : List HostEvent) : State := { State.resetOf true true with condition := c, bus := es }

/-- The outcome is a next state. -/
def completes (o : Host.Outcome State Fault Refusal) : Bool :=
  match o with
  | .next _ => true
  | .fault _ => false
  | .refused _ => false

theorem witness_DecodeOfEncodeIsTheCommand :
    ∀ i ∈ [Instr.perm 0, .perm 255, .blockfn 255, .qround 15 14 13 12, .qround 0 0 0 0, .nop],
      i.wellFormed = true := by decide

theorem witness_EncodeOfDecodeIsTheWord :
    decodeWord 0x0000FF15 = .ok (.blockfn 255) ∧ decodeWord 0x00FFFF10 = .ok (.qround 15 15 15 15) := by
  decide +kernel

theorem witness_WordSelectsItsOpcodeRow :
    ((0x00000010, 0xFF0000FF) : Word × Word) ∈ opcodeRows ∧ (0x00FFFF10 : Word) &&& 0xFF0000FF = 0x00000010 ∧
    (0x00010014 : Word) &&& 0xFFFF00FF ≠ 0x00000014 ∧
    ∀ w ∈ [0x00000006, 0x00000016, 0xFFFFFFFF], w % 256 ∉ opcodeRows.map fun r => r.1.toNat % 256 := by
  decide +kernel

theorem witness_CommandWordIsCheckedThenExecuted :
    (∀ v ∈ [0x06, 0x16, 0xFFFFFFFF],
      v % 256 ∉ [0x00, 0x01, 0x02, 0x03, 0x04, 0x05, 0x08, 0x10, 0x11, 0x12, 0x13, 0x14, 0x15]) ∧
    (∀ v ∈ [0x00000100, 0x80000001, 0xFFFFFF13],
      v % 256 ∈ [0x00, 0x01, 0x02, 0x03, 0x04, 0x05, 0x08, 0x11, 0x12, 0x13] ∧ v / 2 ^ 8 ≠ 0) ∧
    (∀ v ∈ [0x01000010, 0xFFFFFF10], v % 256 = 0x10 ∧ v / 2 ^ 24 ≠ 0) ∧
    (∀ v ∈ [0x00010014, 0xFFFF0015], (v % 256 = 0x14 ∨ v % 256 = 0x15) ∧ v / 2 ^ 16 ≠ 0) ∧
    (∀ v ∈ [0x00000010, 0x00FFFF10], v % 256 = 0x10 ∧ v / 2 ^ 24 = 0) ∧
    (∀ v ∈ [0x00000014, 0x0000FF14], v % 256 = 0x14 ∧ v / 2 ^ 16 = 0) ∧
    (∀ v ∈ [0x00000015, 0x0000FF15], v % 256 = 0x15 ∧ v / 2 ^ 16 = 0) := by decide +kernel

theorem witness_StepRunsTheDecodedCommand :
    (pending [writeEvent .cmd 0xFF14]).condition = .running ∧
    nextAccess (pending [writeEvent .cmd 0xFF14]) 0x010 (.write 0xFF14) [] ∧ decodeWord 0xFF14 = .ok (.perm 255) ∧
    nextAccess (pending [writeEvent .cmd 6, writeEvent .cmd 0]) 0x010 (.write 6) [writeEvent .cmd 0] ∧
    decodeWord 6 = .error .illegalOp := ⟨rfl, rfl, by decide +kernel, rfl, by decide⟩

theorem witness_StepWithoutAccessHoldsState :
    (pending []).condition = .running ∧ (pending []).bus = [] := ⟨rfl, rfl⟩

theorem witness_FetchWordIsTheNextCommand :
    decodeTableWord 32 0 = some .nop ∧ decodeTableWord 32 0x0000FF14 = some (.perm 255) := by decide +kernel

/-- The first and the last offset of the window, a narrow access and two misaligned ones. -/
theorem witness_WrongWidthOrAlignmentIsABusError :
    (∀ o : Nat, (pending [.access (accessAt .owner .bits8 (Config.engineBase + o) .read)]).bus =
      [.access (accessAt .owner .bits8 (Config.engineBase + o) .read)]) ∧
    (0 : Nat) < 0x200 ∧ 0x1FF < 0x200 ∧ BusWidth.bits8 ≠ .bits32 ∧ BusWidth.burst ≠ .bits32 ∧
    (Config.engineBase + 0x001) % 4 ≠ 0 ∧ (Config.engineBase + 0x1FF) % 4 ≠ 0 := by
  refine ⟨fun _ => rfl, by decide, by decide, by decide, by decide, ?_, ?_⟩ <;> simp only [Config.engineBase] <;> omega

theorem witness_UnmappedOffsetsAreBusErrors :
    (∀ o ∈ [0x018, 0x01F, 0x05C, 0x07F, 0x0C0, 0x0FF],
      0x018 ≤ o ∧ o < 0x020 ∨ 0x05C ≤ o ∧ o < 0x080 ∨ 0x0C0 ≤ o ∧ o < 0x100) ∧
    (∀ o : Nat, (pending [.access ⟨.owner, .burst, o, .write 1⟩]).bus =
      [.access ⟨.owner, .burst, o, .write 1⟩]) := ⟨by decide, fun _ => rfl⟩

theorem witness_ReadOnlyWritesAreBusErrors :
    (∀ o ∈ [0x000, 0x004, 0x00C, 0x050, 0x054, 0x058, 0x100, 0x1FC],
      o ∈ [0x000, 0x004, 0x00C, 0x050, 0x054, 0x058] ∨ 0x100 ≤ o ∧ o < 0x200 ∧ o % 4 = 0) ∧
    nextAccess (pending [writeEvent (.out 63) 7]) 0x1FC (.write 7) [] ∧
    nextAccess (pending [readEvent .cmd]) 0x010 .read [] := ⟨by decide, rfl, rfl⟩

/-- A legal access and one that is not. -/
theorem witness_AccessCompletesExactlyWhenLegal :
    (pending [readEvent (.out 63)]).condition = .running ∧
    (pending [readEvent (.out 63)]).bus = [.access ⟨.owner, .bits32, 0x1FC, .read⟩] ∧
    (⟨.owner, .bits32, 0x1FC, .read⟩ : HostAccess).Legal ∧
    ¬(⟨.other, .bits32, 0x1FC, .read⟩ : HostAccess).Legal := by
  refine ⟨rfl, rfl, ⟨rfl, rfl, .out 63, rfl, .inl rfl⟩, ?_⟩
  rintro ⟨h, _⟩
  cases h

theorem witness_AccessesOutsideTheSpecAreRefused :
    (held .resetAsserted [readEvent .id]).bus = [readEvent .id] ∧
    (held .resetAsserted [readEvent .id]).condition = .resetAsserted ∧
    (held .powerLost [readEvent .id]).condition = .powerLost ∧
    (pending [.access ⟨.other, .bits32, 0, .read⟩]).condition = .running := ⟨rfl, rfl, rfl, rfl⟩

theorem witness_AccessesHaveNoOtherEffect :
    (pending [readEvent (.out 0), readEvent (.out 0)]).bus = [readEvent (.out 0), readEvent (.out 0)] ∧
    (pending [writeEvent (.w 15) 5]).bus = [writeEvent (.w 15) 5] ∧
    (pending [writeEvent (.w 15) 5]).condition = .running ∧
    ∀ r ∈ [Reg.ctrl, .rounds, .key 0, .key 7, .streamLo, .streamHi, .ctrinLo, .ctrinHi, .w 0, .w 15],
      r.access = .readWrite := ⟨rfl, rfl, rfl, by decide⟩

theorem witness_IdAlwaysReadsCC20 :
    nextAccess (pending [readEvent .id]) 0x000 .read [] ∧
    nextAccess (pending [writeEvent .id 1]) 0x000 (.write 1) [] := ⟨rfl, rfl⟩

theorem witness_CapsReportsTheBuildForever :
    nextAccess (pending [readEvent .caps]) 0x004 .read [] ∧
    nextAccess (pending [writeEvent .caps 1]) 0x004 (.write 1) [] ∧
    (completes (step (pending [writeEvent .cmd 1])) = true) ∧
    completes (step (held .resetAsserted [.resetLine false])) = true := ⟨rfl, rfl, rfl, rfl⟩

/-- Words with a reserved bit set, the lowest and all of them, for each format: the hypotheses of the last clause of
the statements about NOP, CLRERR, COLROUND, DIAGROUND, DROUND, LOADINIT, CONFIG, GENERATE, REGENERATE, SETCTR, QROUND,
PERM and BLOCKFN. -/
theorem witness_reserved_bits_of_each_command :
    (∀ op ∈ [0x00, 0x01, 0x02, 0x03, 0x04, 0x05, 0x08, 0x11, 0x12, 0x13], ∀ v ∈ [op + 0x100, op + 0xFFFFFF00],
      v % 256 = op ∧ v / 256 ≠ 0 ∧ v < 2 ^ 32) ∧
    (∀ v ∈ [0x10 + 0x1000000, 0xFFFFFF10], v % 256 = 0x10 ∧ v / 2 ^ 24 ≠ 0 ∧ v < 2 ^ 32) ∧
    (∀ op ∈ [0x14, 0x15], ∀ v ∈ [op + 0x10000, op + 0xFFFFFF00],
      v % 256 = op ∧ v / 2 ^ 16 ≠ 0 ∧ v < 2 ^ 32) := by decide +kernel

theorem witness_QroundAppliesQRAtItsIndices :
    aliased 0 4 8 12 = false ∧ aliased 15 14 13 12 = false ∧ aliased 0 0 1 2 = true ∧ aliased 0 1 15 15 = true ∧
    (15 : Fin 16) ≠ 14 ∧ (15 : Fin 16) ≠ 13 ∧ (15 : Fin 16) ≠ 12 ∧ (14 : Fin 16) ≠ 13 ∧ (14 : Fin 16) ≠ 12 ∧
    (13 : Fin 16) ≠ 12 := by decide

theorem witness_PermAppliesDRnTimes : (1 : Nat) ≠ 0 ∧ 255 ≠ 0 ∧ 0 < 256 ∧ 255 < 256 := by decide

theorem witness_BlockfnAddsThePermutedMatrix : (1 : Nat) ≠ 0 ∧ 255 ≠ 0 ∧ 0 < 256 ∧ 255 < 256 := by decide

/-- A configured engine and one that is not: LOADINIT, GENERATE, REGENERATE and SETCTR. -/
theorem witness_configured_or_not :
    (seeded .v256 0xFFFFFFFFFFFFFFFF).configured = true ∧ (State.resetOf true true).configured = false :=
  ⟨rfl, rfl⟩

/-- Each clause of CONFIG's checks: ROUNDS at 0, at the values beside the legal ones, at the legal ones; a backend
absent and each one bound. -/
theorem witness_ConfigChecksThenLatches :
    [(1 : Word), 3, 5, 7, 9, 11, 20, 0xFFFFFFFF].all (fun r => r ≠ 0 && r ≠ 4 && r ≠ 6 && r ≠ 10) = true ∧
    [(4 : Word), 6, 10].all (fun r => r = 4 || r = 6 || r = 10) = true ∧
    { State.reset with rounds := 0 }.rounds = 0 ∧
    select 3 true false = none ∧ select 2 false true = none ∧ select 0 false false = some .sw ∧
    select 0 true false = some .v128 ∧ select 0 true true = some .v256 := by decide

theorem witness_RejectedCommandsOnlySetErrcode :
    rejectionCode .config { State.resetOf true true with rounds := 0 } = some 0x03 ∧
    rejectionCode .config { State.resetOf true true with rounds := 5 } = some 0x04 ∧
    rejectionCode .config { State.resetOf true false with backendForce := 3 } = some 0x05 ∧
    (∀ i ∈ [Instr.generate, .regenerate, .setctr, .loadinit],
      rejectionCode i (State.resetOf true true) = some 0x06 ∧ rejectionCode i (seeded .sw 0) = none) ∧
    rejectionCode (.qround 0 0 1 2) (seeded .sw 0) = some 0x07 ∧
    rejectionCode (.perm 0) (seeded .sw 0) = some 0x08 ∧ rejectionCode (.blockfn 0) (seeded .sw 0) = some 0x08 ∧
    (∀ i ∈ [Instr.nop, .config, .colround, .diaground, .dround, .perm 1, .blockfn 255, .qround 0 1 2 3],
      rejectionCode i (seeded .sw 0) = none ∧ i ≠ .clrerr) ∧
    decodeWord 0x00000006 = .error .illegalOp ∧ decodeWord 0x80000000 = .error .reservedNz := by decide +kernel

/-- Every command of each clause answers a next state. -/
theorem witness_CommandsLeaveTheRestUnchanged :
    ∀ i ∈ [Instr.nop, .clrerr, .config, .generate, .regenerate, .setctr, .loadinit, .colround, .diaground, .dround,
      .qround 0 1 2 3, .perm 255, .blockfn 255], completes (exec i (seeded .v128 0)) = true := by decide

/-- One step for each case of the statements about the active configuration, C, OUT and W: idle, a reset, CONFIG, GENERATE, REGENERATE, SETCTR,
the first and last host write to W, LOADINIT and the work-matrix commands. -/
theorem witness_state_changing_steps :
    (completes (step (pending [])) = true) ∧
    (completes (step (held .resetAsserted [.resetLine false])) = true) ∧
    nextIsReset (held .resetAsserted [.resetLine false]) ∧
    (∀ v, nextCommand (pending [writeEvent .cmd v]) v) ∧
    [(1 : Word), 2, 3, 4, 8, 0x00321010, 0x11, 0x12, 0x13, 0xFF14, 0xFF15].all
      (fun v => completes (step (pending [writeEvent .cmd v]))) = true ∧
    nextAccess (pending [writeEvent (.w 0) 5]) 0x080 (.write 5) [] ∧
    nextAccess (pending [writeEvent (.w 15) 5]) 0x0BC (.write 5) [] ∧
    completes (step (pending [writeEvent (.w 15) 5])) = true := by
  exact ⟨rfl, rfl, ⟨rfl, [], rfl⟩, fun _ => ⟨[], rfl⟩, by decide +kernel, rfl, rfl, rfl⟩

/-- A read, a bus error and a refusal, none of them GENERATE, REGENERATE or LOADINIT. -/
theorem witness_ActiveKeyIsNotReadable :
    (∀ v, ¬nextCommand (pending [readEvent (.key 0)]) v) ∧ (completes (step (pending [readEvent (.key 0)])) = true) ∧
    step (pending [.access ⟨.owner, .bits8, 0x20, .read⟩]) = .fault .busWidth ∧
    step (held .powerLost [readEvent .id]) = .refused .accessAfterPowerLoss := by
  refine ⟨?_, rfl, rfl, rfl⟩
  rintro v ⟨rest, h⟩
  simp [nextAccess, pending, readEvent] at h

/-- CTRL not forcing a vector datapath, and CTRL forcing one with the same build. -/
theorem witness_BackendIsInvisible :
    (pending [writeEvent .cmd 2]).backendForce.toNat ≤ 1 ∧
    (completes (step (pending [writeEvent .cmd 2])) = true) ∧
    (pending [writeEvent .cmd 1]).hasV128 = true ∧
    (completes (step { pending [writeEvent .cmd 1] with backendForce := 3 }) = true) ∧
    ∀ rest, ¬nextAccess (pending [writeEvent .cmd 2]) 0x004 .read rest ∧
      ¬nextAccess (pending [writeEvent .cmd 2]) 0x00C .read rest := by
  refine ⟨by decide, rfl, rfl, rfl, fun rest => ⟨?_, ?_⟩⟩ <;> intro h <;>
    simp [nextAccess, pending, writeEvent] at h

theorem witness_BlockCountersCarryAndWrap : (0 : Nat) < 4 ∧ 3 < 4 ∧ 0 < 2 ∧ 1 < 2 := by decide

theorem witness_QuarterRoundsOfARoundCommute : (0 : Fin 4) ≠ 3 := by decide

theorem witness_PermutationComposesAndIsBijective : (255 : Nat) ≠ 0 ∧ (pending []).condition = .running :=
  ⟨by decide, rfl⟩

theorem witness_GenerationIsContinuous :
    (seeded .v128 0xFFFFFFFFFFFFFFFF).configured = true ∧
    (seeded .v128 0xFFFFFFFFFFFFFFFF).condition = .running := ⟨rfl, rfl⟩

/-- A fresh cursor, and one whose buffer is the engine's, at both ends of the offset. -/
theorem witness_SeekIsConsistentWithReading :
    let s := { seeded .sw 4 with out := buf Key.zero 0 10 0 }
    s.configured = true ∧ s.condition = .running ∧ (0 : Nat) < 16 ∧ 15 < 16 ∧ Cursor.fresh.valid = false ∧
    (⟨true, 0, 64⟩ : Cursor).valid = true ∧ s.counter = (⟨true, 0, 64⟩ : Cursor).base + 4 ∧
    s.out = buf s.activeKey s.activeStream s.activeRounds.toNat (⟨true, 0, 64⟩ : Cursor).base :=
  ⟨rfl, rfl, by decide, by decide, rfl, rfl, by decide, rfl⟩

/-- A fresh cursor, and valid ones at both ends of the index. -/
theorem witness_FillReturnsKeystreamBytes :
    let s := { seeded .sw 4 with out := buf Key.zero 0 10 0 }
    s.configured = true ∧ s.condition = .running ∧ Cursor.fresh.valid = false ∧ Cursor.fresh.idx = 64 ∧
    (⟨true, 0, 0⟩ : Cursor).idx ≤ 64 ∧ (⟨true, 0, 64⟩ : Cursor).idx ≤ 64 ∧ s.counter = (0 : DWord) + 4 ∧
    s.out = buf s.activeKey s.activeStream s.activeRounds.toNat 0 ∧ (0 : Nat) < 1 ∧ 256 < 257 :=
  ⟨rfl, rfl, rfl, rfl, by decide, by decide, by decide, rfl, by decide, by decide⟩

theorem witness_NetworkCommandsReproduceTheKeystream :
    (seeded .v256 0).configured = true ∧ (seeded .v256 0).activeRounds ≠ 0 := by decide

theorem witness_StagedWritesDoNotReachTheKeystream :
    (seeded .v256 0).condition = .running ∧
    ∀ r ∈ [Reg.ctrl, .rounds, .streamLo, .streamHi, .ctrinLo, .ctrinHi, .key 0, .key 7],
      r = .ctrl ∨ r = .rounds ∨ r = .streamLo ∨ r = .streamHi ∨ r = .ctrinLo ∨ r = .ctrinHi ∨ ∃ i, r = .key i := by
  refine ⟨rfl, ?_⟩
  simp

theorem witness_StagedHalvesInEitherOrder :
    (seeded .v256 0).condition = .running ∧ (seeded .v256 0).configured = true ∧
    configCheck (seeded .v256 0) = .ok .v256 := ⟨rfl, rfl, by decide⟩

theorem witness_ResetRestoresEveryState :
    (held .resetAsserted [.resetLine false]).condition = .resetAsserted ∧
    (held .resetAsserted [.resetLine false]).bus = [.resetLine false] ∧
    (pending [.resetLine true]).bus = [.resetLine true] ∧
    (held .resetAsserted [readEvent .id]).bus = [readEvent .id] ∧ (held .resetAsserted []).condition = .resetAsserted ∧
    completes (exec .generate (seeded .v256 0)) = true := ⟨rfl, rfl, rfl, rfl, rfl, rfl⟩

theorem witness_OnlyKeystreamCommandsNeedConfigAfterReset :
    (1 : Nat) ≠ 0 ∧ 255 ≠ 0 ∧ (0 : Fin 16) ≠ 1 ∧ (0 : Fin 16) ≠ 2 ∧ (0 : Fin 16) ≠ 15 ∧ (1 : Fin 16) ≠ 2 ∧
    (1 : Fin 16) ≠ 15 ∧ (2 : Fin 16) ≠ 15 := by decide

/-- A configured state has the invariant and a step from it completes. -/
theorem witness_StepKeepsTheInvariant :
    (pending [writeEvent .cmd 1]).Inv ∧ completes (step (pending [writeEvent .cmd 1])) = true :=
  ⟨by decide, rfl⟩

/-- Each side of what a construction checks. -/
theorem witness_ConstructionIsSeedThenCheck :
    (State.resetOf true true).condition = .running ∧ (State.resetOf true true).errCode = 0 ∧
    { State.resetOf true true with errCode := 6 }.errCode ≠ 0 ∧ ((10 : Word) = 4 ∨ (10 : Word) = 6 ∨ (10 : Word) = 10) ∧
    select 0 true true ≠ none ∧ select 3 true false = none := by decide

end Sys2Proof.Machine.Tests
end

section
/-! The layer below the obligations of the engine's state: what the decoder, one command, one host access and one
step can do. -/

namespace Sys2Proof.Machine

open Sys2Proof.Laws

/-! The word of a decoded command (30_encoding.md R95). -/

/-- A word that decodes has the opcode of its command's row and that row's reserved field clear. -/
theorem row_of_decodeWord {v : Word} {i : Instr} (h : decodeWord v = .ok i) :
    v.toNat % 256 = (EncodedRow.row i).1 ∧ (EncodedRow.row i).2.reservedClear v = true := by
  obtain ⟨f, hc, hf⟩ := (decodeWord_ok_iff v i).1 h
  rw [← opField_toNat]
  unfold commandOf at hc
  split at hc <;> cases hc <;> exact ⟨‹_›, hf⟩

/-- The word of a command without operands is its opcode. -/
theorem word_of_decodeWord_z {v : Word} {i : Instr} (h : decodeWord v = .ok i) (hz : (EncodedRow.row i).2 = .z) :
    v = BitVec.ofNat 32 (EncodedRow.row i).1 := by
  obtain ⟨hop, hclear⟩ := row_of_decodeWord h
  rw [hz, reservedClear_z] at hclear
  apply BitVec.eq_of_toNat_eq
  rw [BitVec.toNat_ofNat]
  omega

/-- A table word of 32 bits decodes as the word it is. -/
theorem decodeWord_of_decodeTableWord {w : Nat} {i : Instr} (h : decodeTableWord 32 w = some i) :
    decodeWord (BitVec.ofNat 32 w) = .ok i := by
  unfold decodeTableWord at h
  split at h
  · split at h
    · rename_i hd
      cases h
      exact hd
    · cases h
  · cases h

/-! What a command can do. -/

/-- LOADINIT and the work-matrix commands (10_state.md R40). -/
def writesMatrix : Instr → Bool
  | .loadinit | .qround _ _ _ _ | .colround | .diaground | .dround | .perm _ | .blockfn _ => true
  | .nop | .config | .generate | .regenerate | .setctr | .clrerr => false

/-- The words of LOADINIT and the work-matrix commands. -/
theorem word_of_writesMatrix {v : Word} {i : Instr} (hv : decodeWord v = .ok i) (hi : writesMatrix i = true) :
    v = 0x00000008 ∨ v = 0x00000011 ∨ v = 0x00000012 ∨ v = 0x00000013 ∨
      v.toNat % 256 = 0x10 ∨ v.toNat % 256 = 0x14 ∨ v.toNat % 256 = 0x15 := by
  cases i with
  | loadinit | colround | diaground | dround => simp [word_of_decodeWord_z hv rfl, EncodedRow.row]
  | qround | perm | blockfn => simp [(row_of_decodeWord hv).1, EncodedRow.row]
  | _ => cases hi

/-- `ExecEffect s i t`: the ways in which command i can take s to t, each with the condition it needs. A rejection and
CLRERR both only write ERRCODE. -/
inductive ExecEffect (s : State) : Instr → State → Prop
  | nop : ExecEffect s .nop s
  | errCode {i : Instr} (c : BitVec 8) (hc : c.toNat ≤ 8) : ExecEffect s i (s.setErrCode c)
  | matrix {i : Instr} (hi : writesMatrix i = true) (x : Mat) : ExecEffect s i (s.setW x)
  | config (b : Backend) (hb : configCheck s = .ok b) : ExecEffect s .config
      (((s.setActive s.key (stagedStream s) s.rounds b).setCounter 0).setOut Buffer.zero)
  | generate (hs : s.configured = true) : ExecEffect s .generate ((fillOut s).setCounter (s.counter + 4))
  | regenerate (hs : s.configured = true) : ExecEffect s .regenerate (fillOut s)
  | setctr (hs : s.configured = true) : ExecEffect s .setctr (s.setCounter (stagedCounter s))

theorem CmdError.code_toNat_le (e : CmdError) : e.code.toNat ≤ 8 := by
  cases e <;> decide

theorem ExecEffect.of_reject {s : State} {i : Instr} (e : CmdError) : ExecEffect s i (reject e s) :=
  .errCode e.code e.code_toNat_le

theorem ExecEffect.of_ifConfigured {s : State} {i : Instr} {f : State → State}
    (h : s.configured = true → ExecEffect s i (f s)) : ExecEffect s i (ifConfigured s f) := by
  obtain ⟨hs, he⟩ | ⟨_, he⟩ := ifConfigured_cases s f <;> rw [he]
  · exact h hs
  · exact .of_reject _

theorem ExecEffect.of_ifCounted {s : State} {i : Instr} {n : Nat} {f : State → State} (h : ExecEffect s i (f s)) :
    ExecEffect s i (ifCounted n s f) := by
  obtain ⟨_, he⟩ | ⟨_, he⟩ := ifCounted_cases n s f <;> rw [he]
  · exact h
  · exact .of_reject _

/-- Every command completes, in one of the ways of `ExecEffect`. -/
theorem exec_effect (i : Instr) (s : State) : ∃ t, exec i s = .next t ∧ ExecEffect s i t := by
  cases i with
  | nop => exact ⟨_, rfl, .nop⟩
  | config =>
    obtain ⟨e, _, he⟩ | ⟨b, hb, he⟩ := execConfig_cases s
    · exact ⟨_, he, .of_reject e⟩
    · exact ⟨_, he, .config b hb⟩
  | generate => exact ⟨_, rfl, .of_ifConfigured .generate⟩
  | regenerate => exact ⟨_, rfl, .of_ifConfigured .regenerate⟩
  | setctr => exact ⟨_, rfl, .of_ifConfigured .setctr⟩
  | clrerr => exact ⟨_, rfl, .errCode 0 (by decide)⟩
  | loadinit => exact ⟨_, rfl, .of_ifConfigured fun _ => .matrix rfl _⟩
  | qround a b c d =>
    refine ⟨_, rfl, ?_⟩
    split
    · exact .of_reject _
    · exact .matrix rfl _
  | colround => exact ⟨_, rfl, .matrix rfl _⟩
  | diaground => exact ⟨_, rfl, .matrix rfl _⟩
  | dround => exact ⟨_, rfl, .matrix rfl _⟩
  | perm n => exact ⟨_, rfl, .of_ifCounted (.matrix rfl _)⟩
  | blockfn n => exact ⟨_, rfl, .of_ifCounted (.matrix rfl _)⟩

/-- Everything a command that answers t can have done. -/
theorem effect_of_exec {i : Instr} {s t : State} (h : exec i s = .next t) : ExecEffect s i t := by
  obtain ⟨u, hu, he⟩ := exec_effect i s
  cases hu.symm.trans h
  exact he

/-- CONFIG is accepted, in the statements' words, when its checks pass. -/
theorem rejectionCode_config_of_ok {s : State} {b : Backend} (h : configCheck s = .ok b) :
    rejectionCode .config s = none := by
  obtain ⟨hr, hs⟩ := configCheck_ok h
  rcases hr with hr | hr | hr <;> simp [rejectionCode, hr, hs]

/-! What a store of the host leaves. -/

@[simp] theorem storeReg_hasV128 (r : Reg) (v : Word) (s : State) : (storeReg r v s).hasV128 = s.hasV128 := by
  cases r <;> rfl
@[simp] theorem storeReg_hasV256 (r : Reg) (v : Word) (s : State) : (storeReg r v s).hasV256 = s.hasV256 := by
  cases r <;> rfl
@[simp] theorem storeReg_configured (r : Reg) (v : Word) (s : State) :
    (storeReg r v s).configured = s.configured := by
  cases r <;> rfl
@[simp] theorem storeReg_backend (r : Reg) (v : Word) (s : State) : (storeReg r v s).backend = s.backend := by
  cases r <;> rfl
@[simp] theorem storeReg_errCode (r : Reg) (v : Word) (s : State) : (storeReg r v s).errCode = s.errCode := by
  cases r <;> rfl
@[simp] theorem storeReg_counter (r : Reg) (v : Word) (s : State) : (storeReg r v s).counter = s.counter := by
  cases r <;> rfl
@[simp] theorem storeReg_activeKey (r : Reg) (v : Word) (s : State) :
    (storeReg r v s).activeKey = s.activeKey := by
  cases r <;> rfl
@[simp] theorem storeReg_activeStream (r : Reg) (v : Word) (s : State) :
    (storeReg r v s).activeStream = s.activeStream := by
  cases r <;> rfl
@[simp] theorem storeReg_activeRounds (r : Reg) (v : Word) (s : State) :
    (storeReg r v s).activeRounds = s.activeRounds := by
  cases r <;> rfl
@[simp] theorem storeReg_out (r : Reg) (v : Word) (s : State) : (storeReg r v s).out = s.out := by
  cases r <;> rfl

/-- A store changes W only when its register is a word of W. -/
theorem storeReg_w_cases (r : Reg) (v : Word) (s : State) :
    (storeReg r v s).w = s.w ∨ ∃ i, r = .w i ∧ (storeReg r v s).w = Mat.setWord s.w i v := by
  cases r with
  | w i => exact .inr ⟨i, rfl, rfl⟩
  | _ => exact .inl rfl

/-! A step with an access pending. -/

section access
variable {s : State} {rest : List HostEvent} (hs : s.condition = .running)
include hs

/-- A pending read is answered with the register's word and taken off the queue. -/
theorem step_readEvent {r : Reg} (hb : s.bus = readEvent r :: rest) :
    step s = .next { s with bus := rest, replies := s.replies ++ [readReg r s] } := by
  have hstep : step s = busEvent (readEvent r) (s.setBus rest) := by rw [step, hb]
  have hread : readReg r (s.setBus rest) = readReg r s := by cases r <;> rfl
  have hbus : busEvent (readEvent r) (s.setBus rest) = busRead r (s.setBus rest) :=
    busAccess_owner (s := s.setBus rest) hs r .read
  rw [hstep, hbus, busRead, hread]
  rfl

/-- A pending write is performed on the state with the access taken off the queue. -/
theorem step_writeEvent {r : Reg} {v : Word} (hb : s.bus = writeEvent r v :: rest) :
    step s = busWrite r v (s.setBus rest) := by
  rw [step, hb]
  exact busAccess_owner (s := s.setBus rest) hs r (.write v)

/-- A pending write to a read-only register is a bus error (20_memory.md R63). -/
theorem step_write_readOnly {r : Reg} {v : Word} (hr : r.access = .readOnly) (hb : s.bus = writeEvent r v :: rest) :
    step s = .fault .busReadOnly := by
  rw [step_writeEvent hs hb, busWrite, hr]

/-- A pending write to CMD runs its word (10_state.md R26). -/
theorem step_command {v : Word} (hb : s.bus = writeEvent .cmd v :: rest) :
    step s = runCommand v (s.setBus rest) :=
  step_writeEvent hs hb

end access

/-! What a step can do. -/

/-- `StepEffect s t`: the ways in which a step can take s to t. `held` covers the idle step, a loss of power, a level
of the reset input that does not reset, and a read: no register and no internal state of the engine changes. -/
inductive StepEffect (s : State) : State → Prop
  | held (c : Condition) (b : List HostEvent) (q : List Word) :
      StepEffect s { s with condition := c, bus := b, replies := q }
  | reset (hr : nextIsReset s) (b : List HostEvent) :
      StepEffect s { State.resetOf s.hasV128 s.hasV256 with bus := b, replies := s.replies }
  | store (r : Reg) (v : Word) (rest : List HostEvent) (hb : s.bus = writeEvent r v :: rest) :
      StepEffect s (storeReg r v (s.setBus rest))
  | rejected (e : CmdError) (rest : List HostEvent) : StepEffect s (reject e (s.setBus rest))
  | executed {t : State} (i : Instr) (v : Word) (rest : List HostEvent) (hb : s.bus = writeEvent .cmd v :: rest)
      (hv : decodeWord v = .ok i) (he : ExecEffect (s.setBus rest) i t) : StepEffect s t

/-- Everything a step that completes can have done to the engine. -/
theorem effect_of_step {s t : State} (h : step s = .next t) : StepEffect s t := by
  obtain ⟨_, rfl⟩ | ⟨rest, _, rfl⟩ | ⟨b, rest, hb, rfl⟩ | ⟨r, rest, _, _, rfl⟩ | ⟨r, v, rest, _, _, hb, rfl⟩ |
    ⟨v, rest, _, hb, hrun⟩ := step_next_cases h
  · exact .held t.condition t.bus t.replies
  · obtain ⟨_, he⟩ | ⟨_, he⟩ := losePower_cases (s.setBus rest) <;> rw [he]
    · exact .held s.condition rest s.replies
    · exact .held .powerLost rest s.replies
  · obtain ⟨_, he⟩ | ⟨rfl, hc, he⟩ | ⟨_, _, he⟩ := resetInput_cases b (s.setBus rest) <;> rw [he]
    · exact .held .resetAsserted rest s.replies
    · exact StepEffect.reset (s := s) ⟨hc, rest, hb⟩ rest
    · exact .held s.condition rest s.replies
  · exact .held s.condition rest _
  · exact .store r v rest hb
  · obtain ⟨e, _, he⟩ | ⟨i, hv, he⟩ := runCommand_cases v (s.setBus rest) <;> rw [he] at hrun
    · cases hrun
      exact .rejected e rest
    · exact .executed i v rest hb hv (effect_of_exec hrun)

/-- No step changes which datapaths the build has (10_state.md R23). -/
theorem step_keeps_build {s t : State} (h : step s = .next t) :
    t.hasV128 = s.hasV128 ∧ t.hasV256 = s.hasV256 := by
  cases effect_of_step h with
  | held | reset | rejected => exact ⟨rfl, rfl⟩
  | store => simp
  | executed _ _ _ _ _ he => cases he <;> exact ⟨rfl, rfl⟩

/-- A command word that is CMD's next write is the host's next command. -/
theorem nextCommand_of_decodeWord_z {s : State} {v : Word} {rest : List HostEvent} {i : Instr}
    (hb : s.bus = writeEvent .cmd v :: rest) (hv : decodeWord v = .ok i) (hz : (EncodedRow.row i).2 = .z) :
    nextCommand s (BitVec.ofNat 32 (EncodedRow.row i).1) := by
  obtain rfl := word_of_decodeWord_z hv hz
  exact ⟨rest, hb⟩

/-! Two engines that differ only in the active key and stream id (10_state.md R36). -/

/-- s and t agree but for AK and AS. -/
def EqExceptActive (s t : State) : Prop :=
  s = { t with activeKey := s.activeKey, activeStream := s.activeStream }

/-- Two outcomes of the same kind: next states that are related, the same fault, the same refusal. -/
inductive OutcomeRel (R : State → State → Prop) :
    Host.Outcome State Fault Refusal → Host.Outcome State Fault Refusal → Prop
  | next {t t' : State} (h : R t t') : OutcomeRel R (.next t) (.next t')
  | fault (f : Fault) : OutcomeRel R (.fault f) (.fault f)
  | refused (f : Refusal) : OutcomeRel R (.refused f) (.refused f)

section
variable {R : State → State → Prop} {o : Host.Outcome State Fault Refusal}

theorem OutcomeRel.next_left {t : State} (h : OutcomeRel R (.next t) o) : ∃ t', o = .next t' ∧ R t t' := by
  cases h with
  | next h => exact ⟨_, rfl, h⟩

theorem OutcomeRel.fault_left {f : Fault} (h : OutcomeRel R (.fault f) o) : o = .fault f := by
  cases h
  rfl

theorem OutcomeRel.refused_left {f : Refusal} (h : OutcomeRel R (.refused f) o) : o = .refused f := by
  cases h
  rfl

end

/-- s with another active key and stream id. -/
def withActive (s : State) (k : Key) (sid : DWord) : State := { s with activeKey := k, activeStream := sid }

/-- The three commands whose rule reads AK and AS. -/
def readsActive : Instr → Bool
  | .generate | .regenerate | .loadinit => true
  | .nop | .config | .setctr | .clrerr | .qround _ _ _ _ | .colround | .diaground | .dround | .perm _
  | .blockfn _ => false

/-- The words of those three commands (30_encoding.md R95). -/
def activeReaderWords : List Word := [0x00000002, 0x00000003, 0x00000008]

theorem word_of_readsActive {v : Word} {i : Instr} (hv : decodeWord v = .ok i) (hi : readsActive i = true) :
    v ∈ activeReaderWords := by
  cases i with
  | generate | regenerate | loadinit => simp [word_of_decodeWord_z hv rfl, EncodedRow.row, activeReaderWords]
  | _ => cases hi

section active
variable (s : State) (k : Key) (sid : DWord)

@[simp] theorem withActive_condition : (withActive s k sid).condition = s.condition := rfl
@[simp] theorem withActive_bus : (withActive s k sid).bus = s.bus := rfl
@[simp] theorem configCheck_withActive : configCheck (withActive s k sid) = configCheck s := rfl

/-- A command that does not read AK and AS carries nothing of them into any other field. -/
theorem exec_withActive {i : Instr} (hi : readsActive i = false) :
    OutcomeRel EqExceptActive (exec i s) (exec i (withActive s k sid)) := by
  cases i with
  | generate | regenerate | loadinit => cases hi
  | nop | clrerr | colround | diaground | dround => exact .next rfl
  | config =>
    simp only [exec, execConfig, configCheck_withActive]
    cases configCheck s <;> exact .next rfl
  | setctr =>
    refine .next ?_
    show EqExceptActive (if s.configured then _ else _) (if s.configured then _ else _)
    split <;> rfl
  | qround a b c d =>
    refine .next ?_
    split <;> rfl
  | perm n | blockfn n =>
    refine .next ?_
    unfold ifCounted
    split <;> rfl

theorem runCommand_withActive {v : Word} (hv : v ∉ activeReaderWords) :
    OutcomeRel EqExceptActive (runCommand v s) (runCommand v (withActive s k sid)) := by
  unfold runCommand
  cases hd : decodeWord v with
  | error e => exact .next rfl
  | ok i => exact exec_withActive s k sid (Bool.eq_false_iff.2 fun hi => hv (word_of_readsActive hd hi))

/-- No register of the window holds AK or AS. -/
theorem busRead_withActive (r : Reg) :
    OutcomeRel EqExceptActive (busRead r s) (busRead r (withActive s k sid)) := by
  cases r <;> exact .next rfl

/-- A store reads neither AK nor AS, and the two engines run the same command word. -/
theorem busWrite_withActive {r : Reg} {v : Word} (hv : r = .cmd → v ∉ activeReaderWords) :
    OutcomeRel EqExceptActive (busWrite r v s) (busWrite r v (withActive s k sid)) := by
  unfold busWrite
  cases hr : r.access with
  | readOnly => exact .fault _
  | writeOnly => exact runCommand_withActive s k sid (hv (Reg.eq_cmd_of_writeOnly hr))
  | readWrite => cases r <;> exact .next rfl

theorem busAccess_withActive {a : HostAccess}
    (ha : ∀ v ∈ activeReaderWords, HostEvent.access a ≠ writeEvent .cmd v) :
    OutcomeRel EqExceptActive (busAccess a s) (busAccess a (withActive s k sid)) := by
  obtain ⟨m, wd, o, op⟩ := a
  simp only [busAccess, withActive_condition]
  cases s.condition with
  | resetAsserted | powerLost => exact .refused _
  | running =>
    cases m with
    | other => exact .refused _
    | owner =>
      cases hsel : selectReg ⟨.owner, wd, o, op⟩ with
      | error f => exact .fault f
      | ok r =>
        obtain ⟨rfl, rfl⟩ := (selectReg_ok_iff _ r).1 hsel
        cases op with
        | read => exact busRead_withActive s k sid r
        | write v =>
          refine busWrite_withActive s k sid ?_
          rintro rfl hv
          exact ha v hv rfl

theorem busEvent_withActive {e : HostEvent} (he : ∀ v ∈ activeReaderWords, e ≠ writeEvent .cmd v) :
    OutcomeRel EqExceptActive (busEvent e s) (busEvent e (withActive s k sid)) := by
  cases e with
  | access a => exact busAccess_withActive s k sid he
  | resetLine b =>
    simp only [busEvent, resetInput, withActive_condition]
    cases b with
    | true => exact .next rfl
    | false => cases s.condition <;> exact .next rfl
  | powerLoss =>
    simp only [busEvent, losePower, withActive_condition]
    cases s.condition <;> exact .next rfl

/-- Engines that differ only in AK and AS stay so at every step that is none of the three commands. -/
theorem step_withActive (hs : ∀ v ∈ activeReaderWords, ¬nextCommand s v) :
    OutcomeRel EqExceptActive (step s) (step (withActive s k sid)) := by
  unfold step
  rw [withActive_bus]
  cases hb : s.bus with
  | nil => exact .next rfl
  | cons e rest =>
    refine busEvent_withActive (s.setBus rest) k sid ?_
    rintro v hv rfl
    exact hs v hv ⟨rest, hb⟩

end active

/-! Unmapped offsets (10_state.md R44). -/

theorem Reg.ofOffset_unmapped {o : Nat}
    (ho : 0x018 ≤ o ∧ o < 0x020 ∨ 0x05C ≤ o ∧ o < 0x080 ∨ 0x0C0 ≤ o ∧ o < 0x100) : Reg.ofOffset o = none := by
  cases h : Reg.ofOffset o with
  | none => rfl
  | some r =>
    have hr := Reg.offset_of_ofOffset h
    cases r <;> simp only [Reg.offset] at hr <;> omega

/-- An access at an offset of the window with no register is one of three bus errors. -/
theorem selectReg_of_no_register {a : HostAccess} {o : Nat} (ha : a.offset = o) (hw : o < 0x200)
    (hn : Reg.ofOffset o = none) :
    ∃ f ∈ [Fault.busWidth, .busMisaligned, .busUnmapped], selectReg a = .error f := by
  have hin : ¬(a.offset < 0 ∨ 0x200 ≤ a.offset) := by omega
  have ho : a.offset.toNat = o := by omega
  unfold selectReg
  rw [if_neg hin, ho, hn]
  split
  · exact ⟨.busWidth, by simp, rfl⟩
  · split
    · exact ⟨.busMisaligned, by simp, rfl⟩
    · exact ⟨.busUnmapped, by simp, rfl⟩

/-! The composed registers as numbers. -/

/-- STATUS as a number: its fields do not overlap (10_state.md R25). -/
theorem statusWord_toNat (s : State) :
    (statusWord s).toNat =
      s.configured.toNat + 2 * backendField s.backend + 2 ^ 3 * (errFlag s).toNat + 2 ^ 8 * s.errCode.toNat := by
  have hconf := Bool.toNat_lt s.configured
  have herr := Bool.toNat_lt (errFlag s)
  have hback : backendField s.backend < 4 := by
    rcases s.backend with _ | _ | _ | _ <;> decide
  have hcode := s.errCode.isLt
  rw [statusWord, BitVec.toNat_ofNat]
  omega

theorem errFlag_toNat (s : State) : (errFlag s).toNat = if s.errCode = 0 then 0 else 1 := by
  by_cases h : s.errCode = 0#8 <;> simp [errFlag, h]

/-- CAPS as a number (10_state.md R23). -/
theorem capsWord_toNat (s : State) : (capsWord s).toNat = 1 + 2 * s.hasV128.toNat + 4 * s.hasV256.toNat := by
  have h128 := Bool.toNat_lt s.hasV128
  have h256 := Bool.toNat_lt s.hasV256
  rw [capsWord, BitVec.toNat_ofNat]
  omega

/-- CTRL as a number (10_state.md R24). -/
theorem ctrlWord_toNat (s : State) : (ctrlWord s).toNat = s.backendForce.toNat := by
  have := s.backendForce.isLt
  rw [ctrlWord, BitVec.toNat_ofNat]
  omega

end Sys2Proof.Machine
end

section
/-! The obligations of the engine's state (10_state.md). -/

namespace Sys2Proof.Machine

open Sys2Proof.Laws

/-- Settles O39: outcome by outcome the two engines stay related, since only GENERATE, REGENERATE and LOADINIT read AK
and AS. -/
theorem activeKeyIsNotReadable : Obligations.ActiveKeyIsNotReadable := by
  intro s k sid h2 h3 h8
  have hquiet : ∀ v ∈ activeReaderWords, ¬nextCommand s v := by
    simpa [activeReaderWords] using ⟨h2, h3, h8⟩
  have hrel := step_withActive s k sid hquiet
  refine ⟨fun t ht => ?_, fun f hf => ?_, fun f hf => ?_⟩
  · rw [ht] at hrel
    exact hrel.next_left
  · rw [hf] at hrel
    exact hrel.fault_left
  · rw [hf] at hrel
    exact hrel.refused_left

/-- Settles O59, by the ways a step and a command can go. -/
theorem stepKeepsTheInvariant : Obligations.StepKeepsTheInvariant := by
  intro s t hinv h
  cases effect_of_step h with
  | held => exact hinv
  | reset => simp [State.Inv, State.resetOf]
  | store => simpa [State.Inv] using hinv
  | rejected e =>
    obtain ⟨hback, hzero, hrounds, h128, h256, _⟩ := hinv
    exact ⟨hback, hzero, hrounds, h128, h256, e.code_toNat_le⟩
  | executed i v rest _ _ he =>
    cases he with
    | nop | matrix | generate | regenerate | setctr => exact hinv
    | errCode c hc =>
      obtain ⟨hback, hzero, hrounds, h128, h256, _⟩ := hinv
      exact ⟨hback, hzero, hrounds, h128, h256, hc⟩
    | config b hb =>
      obtain ⟨hr, hsel⟩ := configCheck_ok hb
      obtain ⟨h128, h256⟩ := select_built hsel
      obtain ⟨_, _, _, _, _, hcode⟩ := hinv
      exact ⟨by simp, by simp, fun _ => hr, fun hv => h128 (Option.some.inj hv), fun hv => h256 (Option.some.inj hv),
        hcode⟩

/-- Settles O10: no register's offset lies in the three ranges. -/
theorem unmappedOffsetsAreBusErrors : Obligations.UnmappedOffsetsAreBusErrors := by
  intro s wd o op rest hs ho hb
  obtain ⟨f, hf, hsel⟩ := selectReg_of_no_register (a := ⟨.owner, wd, o, op⟩) rfl (by omega) (Reg.ofOffset_unmapped ho)
  have hcond : (s.setBus rest).condition = .running := hs
  refine ⟨f, hf, ?_⟩
  rw [step, hb]
  simp only [busEvent, busAccess, hcond, hsel]

/-- Settles O16: no step writes the build's two bits. -/
theorem capsReportsTheBuildForever : Obligations.CapsReportsTheBuildForever := by
  refine ⟨fun s rest hs hb => ?_, fun s t h => ?_, fun s v rest hs hb => ?_⟩
  · exact ⟨_, step_readEvent (r := .caps) hs hb, capsWord_toNat s⟩
  · obtain ⟨h128, h256⟩ := step_keeps_build h
    simp [readReg, capsWord, h128, h256]
  · exact step_write_readOnly (r := .caps) hs rfl hb

/-- Settles O17: each composed register as a number, its fields too small to overlap. -/
theorem composedRegistersReadTheirFields : Obligations.ComposedRegistersReadTheirFields := by
  intro s
  refine ⟨?_, ctrlWord_toNat s, lo32_toNat s.counter, hi32_toNat s.counter⟩
  have hstatus := statusWord_toNat s
  rw [errFlag_toNat] at hstatus
  refine hstatus.trans ?_
  rcases s.backend with _ | _ | _ | _ <;> simp only [backendField] <;> split <;> omega

/-- Settles O34, one case for each way a command can go. -/
theorem commandsLeaveTheRestUnchanged : Obligations.CommandsLeaveTheRestUnchanged := by
  intro i s t h
  cases effect_of_exec h with
  | nop | errCode =>
    exact ⟨rfl, fun _ => rfl, fun _ => rfl, fun _ _ _ => rfl, fun _ _ _ => rfl, fun _ => ⟨rfl, rfl, rfl, rfl, rfl⟩⟩
  | matrix hi x =>
    refine ⟨rfl, fun _ => rfl, ?_, fun _ _ _ => rfl, fun _ _ _ => rfl, fun _ => ⟨rfl, rfl, rfl, rfl, rfl⟩⟩
    rintro (rfl | rfl | rfl | rfl | rfl | rfl) <;> cases hi
  | config => exact ⟨rfl, by simp, fun _ => rfl, by simp, by simp, by simp⟩
  | generate =>
    exact ⟨rfl, by simp, fun _ => rfl, by simp, by simp, fun _ => ⟨rfl, rfl, rfl, rfl, rfl⟩⟩
  | regenerate =>
    exact ⟨rfl, by simp, fun _ => rfl, by simp, fun _ _ _ => rfl, fun _ => ⟨rfl, rfl, rfl, rfl, rfl⟩⟩
  | setctr =>
    exact ⟨rfl, by simp, fun _ => rfl, fun _ _ _ => rfl, by simp, fun _ => ⟨rfl, rfl, rfl, rfl, rfl⟩⟩

/-- Settles O35: of all the ways a step can go, only a reset and CONFIG write AK, AS and AR. -/
theorem activeConfigurationChangesOnlyAtConfig : Obligations.ActiveConfigurationChangesOnlyAtConfig := by
  intro s t h
  cases effect_of_step h with
  | held | rejected => exact .inl ⟨rfl, rfl, rfl⟩
  | reset hr => exact .inr (.inl hr)
  | store => simp
  | executed i v rest hb hv he =>
    cases he with
    | config b hcheck =>
      exact .inr (.inr ⟨nextCommand_of_decodeWord_z hb hv rfl, rejectionCode_config_of_ok hcheck⟩)
    | _ => exact .inl ⟨rfl, rfl, rfl⟩

/-- Settles O36, by the ways a step and a command can go. -/
theorem counterChangesOnlyAsStated : Obligations.CounterChangesOnlyAsStated := by
  intro s t h
  cases effect_of_step h with
  | held | rejected => exact .inl rfl
  | reset hr => exact .inr (.inl ⟨hr, rfl⟩)
  | store => simp
  | executed i v rest hb hv he =>
    cases he with
    | nop | errCode | matrix | regenerate => exact .inl rfl
    | config b hcheck =>
      exact .inr (.inr (.inl ⟨nextCommand_of_decodeWord_z hb hv rfl, rejectionCode_config_of_ok hcheck, rfl⟩))
    | generate hs => exact .inr (.inr (.inr (.inl ⟨nextCommand_of_decodeWord_z hb hv rfl, hs, rfl⟩)))
    | setctr hs => exact .inr (.inr (.inr (.inr ⟨nextCommand_of_decodeWord_z hb hv rfl, hs, rfl⟩)))

/-- Settles O37, by the ways a step and a command can go. -/
theorem outChangesOnlyAsStated : Obligations.OutChangesOnlyAsStated := by
  intro s t h
  cases effect_of_step h with
  | held | rejected => exact .inl rfl
  | reset hr => exact .inr (.inl ⟨hr, rfl⟩)
  | store => simp
  | executed i v rest hb hv he =>
    cases he with
    | nop | errCode | matrix | setctr => exact .inl rfl
    | config b hcheck =>
      exact .inr (.inr (.inl ⟨nextCommand_of_decodeWord_z hb hv rfl, rejectionCode_config_of_ok hcheck, rfl⟩))
    | generate hs => exact .inr (.inr (.inr ⟨.inl (nextCommand_of_decodeWord_z hb hv rfl), hs⟩))
    | regenerate hs => exact .inr (.inr (.inr ⟨.inr (nextCommand_of_decodeWord_z hb hv rfl), hs⟩))

/-- Settles O38, by the ways a step and a command can go; a store writes W only through a word of W. -/
theorem wChangesOnlyAsStated : Obligations.WChangesOnlyAsStated := by
  intro s t h
  cases effect_of_step h with
  | held | rejected => exact .inl rfl
  | reset hr => exact .inr (.inl ⟨hr, rfl⟩)
  | store r v rest hb =>
    obtain hw | ⟨i, rfl, hw⟩ := storeReg_w_cases r v (s.setBus rest)
    · exact .inl hw
    · exact .inr (.inr (.inl ⟨i, v, rest, hb, hw⟩))
  | executed i v rest hb hv he =>
    cases he with
    | matrix hi => exact .inr (.inr (.inr ⟨v, ⟨rest, hb⟩, word_of_writesMatrix hv hi⟩))
    | _ => exact .inl rfl

/-- Settles O6: the pending write to CMD runs its word, which decodes or is rejected. -/
theorem stepRunsTheDecodedCommand : Obligations.StepRunsTheDecodedCommand := by
  intro s v rest hs hb
  have hstep := step_command hs hb
  refine ⟨fun i hi => ?_, fun e he => ?_⟩
  · rw [hstep, runCommand, hi]
    rfl
  · rw [hstep, runCommand, he]
    rfl

/-- Settles O8: the placed word is the pending write to CMD that the step takes off again. -/
theorem fetchWordIsTheNextCommand : Obligations.FetchWordIsTheNextCommand := by
  intro s w i h
  have hstep : step (s.withFetchWord 32 w) =
      runCommand (BitVec.ofNat 32 w) ((s.withFetchWord 32 w).setBus s.bus) := step_command rfl rfl
  rw [hstep, runCommand, decodeWord_of_decodeTableWord h]
  rfl

/-- Settles O15, from the rules for a pending read and for a write to a read-only register. -/
theorem idAlwaysReadsCC20 : Obligations.IdAlwaysReadsCC20 := by
  intro s rest hs
  exact ⟨fun hb => step_readEvent (r := .id) hs hb, fun v hb => step_write_readOnly (r := .id) hs rfl hb⟩

end Sys2Proof.Machine
end

section
/-! The layer below the obligations of the register window (20_memory.md): which accesses are bus errors, what a store
leaves readable, what a second store of the same word does. -/

namespace Sys2Proof.Machine

/-! Accesses that are bus errors. -/

section window
variable {a : HostAccess} (hlo : 0 ≤ a.offset) (hhi : a.offset < 0x200)
include hlo hhi

/-- Inside the window a wrong width is named first (20_memory.md R61, log 5). -/
theorem selectReg_of_wrong_width (hw : a.width ≠ .bits32) : selectReg a = .error .busWidth := by
  rw [selectReg, if_neg (by omega), if_pos hw]

/-- Inside the window a 32-bit access must be aligned (20_memory.md R61). -/
theorem selectReg_of_misaligned (hw : a.width = .bits32) (hm : a.offset % 4 ≠ 0) :
    selectReg a = .error .busMisaligned := by
  rw [selectReg, if_neg (by omega), if_neg (not_not.2 hw), if_pos (by omega)]

end window

/-- The owner's access that reaches no register stops a running engine with its bus error. -/
theorem step_of_selectReg_error {s : State} {a : HostAccess} {rest : List HostEvent} {f : Fault}
    (hs : s.condition = .running) (ha : a.master = .owner) (hb : s.bus = .access a :: rest)
    (hsel : selectReg a = .error f) : step s = .fault f := by
  rw [step, hb]
  simp only [busEvent, busAccess, State.setBus_condition, hs, ha, hsel]

/-- The offsets R63 lists hold read-only registers. -/
theorem Reg.readOnly_at {o : Nat}
    (ho : o ∈ [0x000, 0x004, 0x00C, 0x050, 0x054, 0x058] ∨ 0x100 ≤ o ∧ o < 0x200 ∧ o % 4 = 0) :
    ∃ r : Reg, r.access = .readOnly ∧ r.offset = o := by
  rcases ho with ho | ⟨hlo, hhi, h4⟩
  · simp only [List.mem_cons, List.not_mem_nil, or_false] at ho
    rcases ho with rfl | rfl | rfl | rfl | rfl | rfl
    · exact ⟨.id, rfl, rfl⟩
    · exact ⟨.caps, rfl, rfl⟩
    · exact ⟨.status, rfl, rfl⟩
    · exact ⟨.ctrLo, rfl, rfl⟩
    · exact ⟨.ctrHi, rfl, rfl⟩
    · exact ⟨.actRounds, rfl, rfl⟩
  · refine ⟨.out ⟨(o - 0x100) / 4, by omega⟩, rfl, ?_⟩
    simp only [Reg.offset]
    omega

/-! What a store leaves readable (20_memory.md R64). -/

/-- No register shows the host's pending events or the words already answered. -/
theorem readReg_queues (r : Reg) (s : State) (b : List HostEvent) (q : List Word) :
    readReg r { s with bus := b, replies := q } = readReg r s := by
  cases r <;> rfl

@[simp] theorem storeReg_bus (r : Reg) (v : Word) (s : State) : (storeReg r v s).bus = s.bus := by
  cases r <;> rfl

/-- CTRL reads the two bits that a store keeps (10_state.md R24). -/
theorem ctrlWord_setBackendForce (s : State) (v : Word) :
    ctrlWord (s.setBackendForce (v.extractLsb' 0 2)) = v &&& 3 := by
  apply BitVec.eq_of_toNat_eq
  rw [ctrlWord_toNat, State.setBackendForce_backendForce, BitVec.extractLsb'_toNat, BitVec.toNat_and]
  exact (Nat.and_two_pow_sub_one_eq_mod v.toNat 2).symm

/-- A read-write register reads back the word stored in it. -/
theorem readReg_storeReg_same {r : Reg} (hr : r.access = .readWrite) (v : Word) (s : State) :
    readReg r (storeReg r v s) = if r = .ctrl then v &&& 3 else v := by
  cases r with
  | ctrl => exact ctrlWord_setBackendForce s v
  | rounds | streamLo | streamHi | ctrinLo | ctrinHi => rfl
  | key i => exact (Key.word_setWord s.key i i v).trans (if_pos rfl)
  | w i => exact (Mat.word_setWord s.w i i v).trans (if_pos rfl)
  | id | caps | status | cmd | ctrLo | ctrHi | actRounds | out => cases hr

/-- A store is seen in no other register. -/
theorem readReg_storeReg_of_ne {q r : Reg} (hq : q ≠ r) (v : Word) (s : State) :
    readReg q (storeReg r v s) = readReg q s := by
  cases r with
  | ctrl | rounds | streamLo | streamHi | ctrinLo | ctrinHi =>
    cases q
    any_goals contradiction
    all_goals rfl
  | key i => cases q with
    | key j => exact (Key.word_setWord s.key i j v).trans (if_neg fun h => hq (congrArg Reg.key h))
    | _ => rfl
  | w i => cases q with
    | w j => exact (Mat.word_setWord s.w i j v).trans (if_neg fun h => hq (congrArg Reg.w h))
    | _ => rfl
  | id | caps | status | cmd | ctrLo | ctrHi | actRounds | out => rfl

/-! Storing the same word again. -/

theorem Mat.setWord_setWord (x : Mat) (i : Fin 16) (v : Word) : (x.setWord i v).setWord i v = x.setWord i v :=
  Mat.ext_word fun j => by
    simp only [Mat.word_setWord]
    split <;> rfl

theorem Key.setWord_setWord (k : Key) (i : Fin 8) (v : Word) : (k.setWord i v).setWord i v = k.setWord i v :=
  Key.ext_word fun j => by
    simp only [Key.word_setWord]
    split <;> rfl

/-- Storing a word twice is storing it once. -/
theorem storeReg_storeReg (r : Reg) (v : Word) (s : State) : storeReg r v (storeReg r v s) = storeReg r v s := by
  cases r with
  | key i => exact congrArg s.setKey (Key.setWord_setWord s.key i v)
  | w i => exact congrArg s.setW (Mat.setWord_setWord s.w i v)
  | _ => rfl

/-- A pending write to a read-write register is stored and taken off the queue. -/
theorem step_store {s : State} {r : Reg} {v : Word} {rest : List HostEvent} (hs : s.condition = .running)
    (hr : r.access = .readWrite) (hb : s.bus = writeEvent r v :: rest) :
    step s = .next (storeReg r v (s.setBus rest)) := by
  rw [step_writeEvent hs hb, busWrite, hr]

/-- The same write pending again on the state a store left changes nothing more. -/
theorem step_store_again {s : State} {r : Reg} {v : Word} {rest : List HostEvent} (hs : s.condition = .running)
    (hr : r.access = .readWrite) (hb : s.bus = writeEvent r v :: rest) :
    step ((storeReg r v (s.setBus rest)).setBus s.bus) = .next (storeReg r v (s.setBus rest)) := by
  have hqueue : ((storeReg r v (s.setBus rest)).setBus s.bus).setBus rest = storeReg r v (s.setBus rest) := by
    cases r <;> rfl
  have hrun : ((storeReg r v (s.setBus rest)).setBus s.bus).condition = .running := by simpa using hs
  rw [step_store hrun hr hb, hqueue, storeReg_storeReg]

end Sys2Proof.Machine
end

section
/-! The obligations of the register window (20_memory.md). -/

namespace Sys2Proof.Machine

/-- Settles O9: in the window the width is checked first, then the alignment, which ENGINE_BASE does not disturb. -/
theorem wrongWidthOrAlignmentIsABusError : Obligations.WrongWidthOrAlignmentIsABusError := by
  intro s wd o op rest hs ho hb
  have hoff := accessAt_offset .owner wd o op
  have hlo : 0 ≤ (accessAt .owner wd (Config.engineBase + o) op).offset := by omega
  have hhi : (accessAt .owner wd (Config.engineBase + o) op).offset < 0x200 := by omega
  have hwidth (hw : wd ≠ .bits32) : step s = .fault .busWidth :=
    step_of_selectReg_error hs rfl hb (selectReg_of_wrong_width hlo hhi hw)
  refine ⟨hwidth, fun hm => ?_⟩
  by_cases hw : wd = .bits32
  · have hmis := mt (accessAt_aligned_iff .owner wd (Config.engineBase + o) op).1 hm
    exact .inr (step_of_selectReg_error hs rfl hb (selectReg_of_misaligned hlo hhi hw hmis))
  · exact .inl (hwidth hw)

/-- Settles O11: each offset listed holds a read-only register, and CMD reads 0. -/
theorem readOnlyWritesAreBusErrors : Obligations.ReadOnlyWritesAreBusErrors := by
  refine ⟨fun s o v rest hs ho hb => ?_, fun s rest hs hb => step_readEvent (r := .cmd) hs hb⟩
  obtain ⟨r, hr, rfl⟩ := Reg.readOnly_at ho
  exact step_write_readOnly hs hr hb

/-- Settles O14, from the rules for a pending read and a pending store and from what a store leaves readable. -/
theorem accessesHaveNoOtherEffect : Obligations.AccessesHaveNoOtherEffect := by
  refine ⟨fun s r rest hs hb => step_readEvent hs hb, fun s r rest hs hb => ?_, fun s r v rest hs hr hb => ?_⟩
  · have hagain := step_readEvent (r := r) (rest := rest)
      (s := { s with bus := readEvent r :: rest, replies := s.replies ++ [readReg r s] }) hs rfl
    rw [readReg_queues, List.append_assoc] at hagain
    exact ⟨_, step_readEvent hs hb, hagain⟩
  · refine ⟨_, step_store hs hr hb, readReg_storeReg_same hr v _, fun q hq => ?_, ?_, step_store_again hs hr hb⟩
    · exact (readReg_storeReg_of_ne hq v _).trans (readReg_queues q s rest s.replies)
    · cases r <;> rfl

end Sys2Proof.Machine
end

section
/-! The layer below the obligations of the encoding (30_encoding.md): what the decoder answers on a word of a row of
the opcode map, what Match under Mask says of a word, and that encoding and reading the fields undo each other. -/

namespace Sys2Proof

open Sys2Proof.Laws

/-! The rows of the opcode map (R95). -/

/-- One command of every row of R95, in the table's order; an operand is not part of the row. -/
def rowCommands : List Instr :=
  [.nop, .config, .generate, .regenerate, .setctr, .clrerr, .loadinit, .qround 0 0 0 0, .colround, .diaground,
    .dround, .perm 0, .blockfn 0]

theorem mem_opcodeRows_iff {r : Word × Word} : r ∈ opcodeRows ↔ ∃ i : Instr, (i.rowMatch, i.rowMask) = r := by
  have hmap : opcodeRows = rowCommands.map fun i => (i.rowMatch, i.rowMask) := rfl
  constructor
  · intro h
    rw [hmap, List.mem_map] at h
    exact h.imp fun _ hi => hi.2
  · rintro ⟨i, rfl⟩
    cases i <;> simp [opcodeRows, Instr.rowMatch, Instr.rowMask]

theorem rowMatch_toNat (i : Instr) : i.rowMatch.toNat = (EncodedRow.row i).1 := by
  cases i <;> rfl

theorem opcode_mem (i : Instr) :
    (EncodedRow.row i).1 ∈ [0x00, 0x01, 0x02, 0x03, 0x04, 0x05, 0x08, 0x10, 0x11, 0x12, 0x13, 0x14, 0x15] := by
  cases i <;> simp [EncodedRow.row]

theorem rowMatch_lt (i : Instr) : i.rowMatch.toNat < 256 := by
  cases i <;> simp [Instr.rowMatch]

/-- The opcodes listed are those of the rows of format Z (R95). -/
theorem row_of_opcode_z {op : Nat} (h : op ∈ [0x00, 0x01, 0x02, 0x03, 0x04, 0x05, 0x08, 0x11, 0x12, 0x13]) :
    ∃ i, EncodedRow.row i = (op, .z) := by
  have hmap : [0x00, 0x01, 0x02, 0x03, 0x04, 0x05, 0x08, 0x11, 0x12, 0x13] =
      (rowCommands.filter fun i => (EncodedRow.row i).2 = .z).map fun i => (EncodedRow.row i).1 := rfl
  rw [hmap, List.mem_map] at h
  obtain ⟨i, hi, rfl⟩ := h
  exact ⟨i, Prod.ext rfl (of_decide_eq_true (List.mem_filter.1 hi).2)⟩

/-- The lowest bit of the reserved field of a format (R92 to R94). -/
def Format.reservedFrom : Format → Nat
  | .z => 8
  | .q => 24
  | .n => 16

theorem reservedClear_iff (f : Format) (w : Word) :
    f.reservedClear w = true ↔ w.toNat / 2 ^ f.reservedFrom = 0 := by
  cases f with
  | z => exact reservedClear_z w
  | q => exact reservedClear_q w
  | n => exact reservedClear_n w

/-- The Mask of a row of the format (R95): OP and the reserved field. -/
def Format.mask : Format → Word
  | .z => 0xFFFFFFFF
  | .q => 0xFF0000FF
  | .n => 0xFFFF00FF

theorem rowMask_eq_mask (i : Instr) : i.rowMask = (EncodedRow.row i).2.mask := by
  cases i <;> rfl

/-- A mask of the upper r bits and the lowest byte keeps exactly these. -/
theorem and_reserved_opcode {r m : Nat} (x : BitVec (r + m + 8)) :
    (x &&& (BitVec.allOnes r ++ 0#m ++ BitVec.allOnes 8)).toNat =
      x.toNat / 2 ^ (m + 8) * 2 ^ (m + 8) + x.toNat % 2 ^ 8 := by
  have hx : x = x.extractLsb' (m + 8) r ++ x.extractLsb' 8 m ++ x.extractLsb' 0 8 := by
    rw [BitVec.extractLsb'_append_extractLsb'_eq_extractLsb' (Nat.add_comm m 8),
      BitVec.extractLsb'_append_extractLsb'_eq_extractLsb' (Nat.zero_add 8).symm, BitVec.extractLsb'_eq_self]
  have hlt : x.toNat / 2 ^ (m + 8) < 2 ^ r := by
    rw [Nat.div_lt_iff_lt_mul (Nat.two_pow_pos _), ← Nat.pow_add, ← Nat.add_assoc]
    exact x.isLt
  conv_lhs => rw [hx]
  rw [BitVec.and_append, BitVec.and_append, BitVec.and_allOnes, BitVec.and_zero, BitVec.and_allOnes, append_toNat,
    append_toNat, BitVec.extractLsb'_toNat, BitVec.extractLsb'_toNat, Nat.shiftRight_eq_div_pow, Nat.shiftRight_zero,
    Nat.mod_eq_of_lt hlt, BitVec.toNat_ofNat, Nat.zero_mod, Nat.add_zero, Nat.mul_assoc, ← Nat.pow_add]

theorem and_mask_toNat (f : Format) (w : Word) :
    (w &&& f.mask).toNat = w.toNat / 2 ^ f.reservedFrom * 2 ^ f.reservedFrom + w.toNat % 256 := by
  cases f with
  | z => exact and_reserved_opcode (r := 24) (m := 0) w
  | q => exact and_reserved_opcode (r := 8) (m := 16) w
  | n => exact and_reserved_opcode (r := 16) (m := 8) w

/-- A word has an opcode under the mask of a format when that is its OP and its reserved field is clear. -/
theorem and_mask_eq_iff (f : Format) (w : Word) {op : Word} (hop : op.toNat < 256) :
    w &&& f.mask = op ↔ w.toNat % 256 = op.toNat ∧ f.reservedClear w = true := by
  rw [BitVec.toNat_eq, and_mask_toNat, reservedClear_iff]
  cases f <;> simp only [Format.reservedFrom] <;> omega

/-- A word has a row's Match under its Mask when it has the row's opcode and a clear reserved field. -/
theorem and_rowMask_eq_rowMatch_iff (w : Word) (i : Instr) :
    w &&& i.rowMask = i.rowMatch ↔
      w.toNat % 256 = (EncodedRow.row i).1 ∧ (EncodedRow.row i).2.reservedClear w = true := by
  rw [rowMask_eq_mask, and_mask_eq_iff _ w (rowMatch_lt i), rowMatch_toNat]

/-- A word that has a row's Match under its Mask has the row's opcode. -/
theorem opcode_of_match {r : Word × Word} {w : Word} (hr : r ∈ opcodeRows) (hw : w &&& r.2 = r.1) :
    w.toNat % 256 = r.1.toNat := by
  obtain ⟨i, rfl⟩ := mem_opcodeRows_iff.1 hr
  rw [rowMatch_toNat]
  exact ((and_rowMask_eq_rowMatch_iff w i).1 hw).1

/-! What the decoder answers on a row (R96). -/

/-- The command of the row of i with its operands read off the word (R93, R94). -/
def Instr.withFields (w : Word) : Instr → Instr
  | .qround _ _ _ _ => .qround (fieldA w) (fieldB w) (fieldC w) (fieldD w)
  | .perm _ => .perm (fieldN w)
  | .blockfn _ => .blockfn (fieldN w)
  | i => i

theorem withFields_of_z (w : Word) {i : Instr} (hz : (EncodedRow.row i).2 = .z) : i.withFields w = i := by
  cases i with
  | qround | perm | blockfn => cases hz
  | _ => rfl

/-- The operands do not choose the row. -/
theorem row_withFields (w : Word) (i : Instr) :
    ((i.withFields w).rowMatch, (i.withFields w).rowMask) = (i.rowMatch, i.rowMask) := by
  cases i <;> rfl

theorem fieldN_of_reservedClear {w : Word} (h : w.toNat / 2 ^ 16 = 0) : fieldN w = w.toNat / 2 ^ 8 := by
  rw [fieldN_eq]
  omega

theorem commandOf_of_opcode {w : Word} {i : Instr} (h : w.toNat % 256 = (EncodedRow.row i).1) :
    commandOf w = some ((EncodedRow.row i).2, i.withFields w) := by
  rw [← opField_toNat] at h
  cases i <;> rw [commandOf, h] <;> rfl

theorem decodeWord_of_opcode {w : Word} {i : Instr} (h : w.toNat % 256 = (EncodedRow.row i).1) :
    decodeWord w =
      if (EncodedRow.row i).2.reservedClear w then .ok (i.withFields w) else .error .reservedNz := by
  rw [decodeWord, commandOf_of_opcode h]

theorem row_of_commandOf {w : Word} {f : Format} {i : Instr} (h : commandOf w = some (f, i)) :
    EncodedRow.row i = (w.toNat % 256, f) := by
  rw [← opField_toNat]
  unfold commandOf at h
  split at h <;> cases h <;> exact Prod.ext (Eq.symm ‹_›) rfl

/-- A word whose opcode is that of no row fails the first check (R97). -/
theorem decodeWord_of_no_opcode {w : Word} (h : ∀ i, w.toNat % 256 ≠ (EncodedRow.row i).1) :
    decodeWord w = .error .illegalOp := by
  cases hc : commandOf w with
  | none => rw [decodeWord, hc]
  | some p => exact absurd (congrArg Prod.fst (row_of_commandOf hc)).symm (h p.2)

/-- A word that passes both checks decodes to its row's command with the word's own fields. -/
theorem decodeWord_ok_withFields {w : Word} {i : Instr} (hop : w.toNat % 256 = (EncodedRow.row i).1)
    (hr : (EncodedRow.row i).2.reservedClear w = true) : decodeWord w = .ok (i.withFields w) := by
  rw [decodeWord_of_opcode hop, if_pos hr]

theorem decodeWord_reservedNz {w : Word} {i : Instr} (hop : w.toNat % 256 = (EncodedRow.row i).1)
    (hr : w.toNat / 2 ^ (EncodedRow.row i).2.reservedFrom ≠ 0) : decodeWord w = .error .reservedNz := by
  rw [decodeWord_of_opcode hop, if_neg (mt (reservedClear_iff _ w).1 hr)]

/-! Encoding and reading the fields undo each other (R92 to R94). -/

theorem encode_row (i : Instr) : EncodedRow.Statement i := by
  cases i with
  | qround a b c d => exact EncodedRow.qround a b c d
  | perm n => exact EncodedRow.perm n
  | blockfn n => exact EncodedRow.blockfn n
  | _ => exact ⟨rfl, rfl⟩

theorem fieldN_encodeN (op : BitVec 8) {n : Nat} (h : n < 256) : fieldN (encodeN op n) = n := by
  rw [fieldN_eq, encodeN_toNat]
  omega

/-- The fields of a word of format Q are its operands (R93). -/
theorem fields_encodeQ (op : BitVec 8) (a b c d : Fin 16) :
    fieldA (encodeQ op a b c d) = a ∧ fieldB (encodeQ op a b c d) = b ∧ fieldC (encodeQ op a b c d) = c ∧
      fieldD (encodeQ op a b c d) = d := by
  simp only [Fin.ext_iff, fieldA_val, fieldB_val, fieldC_val, fieldD_val, encodeQ_toNat]
  omega

theorem withFields_encode {i : Instr} (h : i.wellFormed = true) : i.withFields (encode i) = i := by
  cases i with
  | qround a b c d =>
    obtain ⟨ha, hb, hc, hd⟩ := fields_encodeQ 0x10 a b c d
    simp only [Instr.withFields, encode, ha, hb, hc, hd]
  | perm n => simp only [Instr.withFields, encode, fieldN_encodeN 0x14 (of_decide_eq_true h)]
  | blockfn n => simp only [Instr.withFields, encode, fieldN_encodeN 0x15 (of_decide_eq_true h)]
  | _ => rfl

theorem wellFormed_withFields (i : Instr) (w : Word) : (i.withFields w).wellFormed = true := by
  cases i with
  | perm | blockfn => exact decide_eq_true (BitVec.isLt _)
  | _ => rfl

theorem encodeQ_fields {op : BitVec 8} {w : Word} (hop : w.toNat % 256 = op.toNat)
    (hr : Format.q.reservedClear w = true) : encodeQ op (fieldA w) (fieldB w) (fieldC w) (fieldD w) = w := by
  rw [reservedClear_q] at hr
  apply BitVec.eq_of_toNat_eq
  rw [encodeQ_toNat, fieldA_val, fieldB_val, fieldC_val, fieldD_val]
  omega

theorem encodeN_fieldN {op : BitVec 8} {w : Word} (hop : w.toNat % 256 = op.toNat)
    (hr : Format.n.reservedClear w = true) : encodeN op (fieldN w) = w := by
  rw [reservedClear_n] at hr
  apply BitVec.eq_of_toNat_eq
  rw [encodeN_toNat, fieldN_eq]
  omega

theorem encodeZ_of_opcode {op : BitVec 8} {w : Word} (hop : w.toNat % 256 = op.toNat)
    (hr : Format.z.reservedClear w = true) : encodeZ op = w := by
  rw [reservedClear_z] at hr
  apply BitVec.eq_of_toNat_eq
  rw [encodeZ_toNat]
  omega

theorem encode_withFields {i : Instr} {w : Word} (hop : w.toNat % 256 = (EncodedRow.row i).1)
    (hr : (EncodedRow.row i).2.reservedClear w = true) : encode (i.withFields w) = w := by
  cases i with
  | qround => exact encodeQ_fields hop hr
  | perm | blockfn => exact encodeN_fieldN hop hr
  | _ => exact encodeZ_of_opcode hop hr

end Sys2Proof
end

section
/-! What a word written to CMD does, from what the decoder answers on it (10_state.md R26). -/

namespace Sys2Proof.Machine

open Sys2Proof.Laws

theorem runCommand_of_error {v : Word} {e : CmdError} (h : decodeWord v = .error e) (s : State) :
    runCommand v s = .next (reject e s) := by
  rw [runCommand, h]

theorem runCommand_of_ok {v : Word} {i : Instr} (h : decodeWord v = .ok i) (s : State) :
    runCommand v s = exec i s := by
  rw [runCommand, h]

/-- A word that is the opcode of a row of format Z executes the row's command. -/
theorem runCommand_of_z {v : Word} {i : Instr} (hv : v.toNat = (EncodedRow.row i).1)
    (hz : (EncodedRow.row i).2 = .z) (s : State) : runCommand v s = exec i s := by
  have hlt : (EncodedRow.row i).1 < 256 := rowMatch_toNat i ▸ rowMatch_lt i
  have hr : (EncodedRow.row i).2.reservedClear v = true := by
    rw [hz, reservedClear_z]
    omega
  have hop : v.toNat % 256 = (EncodedRow.row i).1 := by omega
  have hdec := decodeWord_ok_withFields hop hr
  rw [withFields_of_z v hz] at hdec
  exact runCommand_of_ok hdec s

/-- A word of format Q executes QROUND on its four fields, read by division (R93). -/
theorem runCommand_of_q {v : Word} (hop : v.toNat % 256 = 0x10) (hr : v.toNat / 2 ^ 24 = 0) (s : State) :
    runCommand v s = exec (.qround (at16 (v.toNat / 2 ^ 8)) (at16 (v.toNat / 2 ^ 12)) (at16 (v.toNat / 2 ^ 16))
      (at16 (v.toNat / 2 ^ 20))) s := by
  have hfields : fieldA v = at16 (v.toNat / 2 ^ 8) ∧ fieldB v = at16 (v.toNat / 2 ^ 12) ∧
      fieldC v = at16 (v.toNat / 2 ^ 16) ∧ fieldD v = at16 (v.toNat / 2 ^ 20) :=
    ⟨Fin.ext (fieldA_val v), Fin.ext (fieldB_val v), Fin.ext (fieldC_val v), Fin.ext (fieldD_val v)⟩
  obtain ⟨ha, hb, hc, hd⟩ := hfields
  rw [← ha, ← hb, ← hc, ← hd]
  exact runCommand_of_ok (decodeWord_ok_withFields (i := .qround 0 0 0 0) hop ((reservedClear_q v).2 hr)) s

/-- A word of format N executes its command on its count, read by division (R94). -/
theorem runCommand_of_n {v : Word} {i : Instr} (hop : v.toNat % 256 = (EncodedRow.row i).1)
    (hn : (EncodedRow.row i).2 = .n) (hr : v.toNat / 2 ^ 16 = 0) (s : State) :
    runCommand v s = exec (i.withFields v) s :=
  runCommand_of_ok (decodeWord_ok_withFields hop (by rw [hn, reservedClear_n, hr])) s

/-- A word with its row's opcode and a bit set in the reserved field sets ERRCODE to RESERVED_NZ (R96). -/
theorem runCommand_of_reserved {v : Word} {i : Instr} (hop : v.toNat % 256 = (EncodedRow.row i).1)
    (hr : v.toNat / 2 ^ (EncodedRow.row i).2.reservedFrom ≠ 0) (s : State) :
    runCommand v s = .next (reject .reservedNz s) :=
  runCommand_of_error (decodeWord_reservedNz hop hr) s

end Sys2Proof.Machine
end

section
/-! The obligations of the encoding (30_encoding.md). -/

namespace Sys2Proof.Machine

open Sys2Proof.Laws

/-- Settles O1: an encoded word has its row's opcode and a clear reserved field, and its fields are the operands. -/
theorem decodeOfEncodeIsTheCommand : Obligations.DecodeOfEncodeIsTheCommand := by
  intro i hi
  obtain ⟨hop, hr⟩ := encode_row i
  rw [opField_toNat] at hop
  rw [decodeWord_ok_withFields hop hr, withFields_encode hi]

/-- Settles O2: the decoded command has the word's own fields as its operands. -/
theorem encodeOfDecodeIsTheWord : Obligations.EncodeOfDecodeIsTheWord := by
  intro w i h
  obtain ⟨hop, hr⟩ := row_of_decodeWord h
  have hi : i.withFields w = i := Except.ok.inj ((decodeWord_ok_withFields hop hr).symm.trans h)
  rw [← hi]
  exact ⟨wellFormed_withFields i w, encode_withFields hop hr⟩

/-- Settles O3: Match under Mask says that OP is the row's and the reserved field is clear, which is what the decoder
checks, and no two rows share an OP. -/
theorem wordSelectsItsOpcodeRow : Obligations.WordSelectsItsOpcodeRow := by
  have hdistinct : opcodeRows.Pairwise fun r q => r.1.toNat ≠ q.1.toNat := by decide
  refine ⟨fun w r hr => ⟨?_, fun hw => ?_⟩, ?_, fun w hw => decodeWord_of_no_opcode fun i => ?_⟩
  · rintro ⟨i, hi, rfl⟩
    exact (and_rowMask_eq_rowMatch_iff w i).2 (row_of_decodeWord hi)
  · obtain ⟨i, rfl⟩ := mem_opcodeRows_iff.1 hr
    obtain ⟨hop, hclear⟩ := (and_rowMask_eq_rowMatch_iff w i).1 hw
    exact ⟨i.withFields w, decodeWord_ok_withFields hop hclear, row_withFields w i⟩
  · refine hdistinct.imp_of_mem fun hr hq hne w ⟨hwr, hwq⟩ => hne ?_
    rw [← opcode_of_match hr hwr, ← opcode_of_match hq hwq]
  · rw [← rowMatch_toNat, ← Nat.mod_eq_of_lt (rowMatch_lt i)]
    exact hw _ (mem_opcodeRows_iff.2 ⟨i, rfl⟩)

/-- Settles O4: each clause is the decoder's answer on a word of one row, or of one format, or of no row. -/
theorem commandWordIsCheckedThenExecuted : Obligations.CommandWordIsCheckedThenExecuted := by
  intro v s
  refine ⟨fun hop => ?illegal, fun hop hr => ?reservedZ, fun hop hr => ?reservedQ, fun hop hr => ?reservedN,
    fun hv => runCommand_of_z hv rfl s, fun hv => runCommand_of_z hv rfl s, fun hv => runCommand_of_z hv rfl s,
    fun hv => runCommand_of_z hv rfl s, fun hv => runCommand_of_z hv rfl s, fun hv => runCommand_of_z hv rfl s,
    fun hv => runCommand_of_z hv rfl s, fun hop hr => runCommand_of_q hop hr s, fun hv => runCommand_of_z hv rfl s,
    fun hv => runCommand_of_z hv rfl s, fun hv => runCommand_of_z hv rfl s, fun hop hr => ?perm,
    fun hop hr => ?blockfn⟩
  case illegal => exact runCommand_of_error (decodeWord_of_no_opcode fun i hi => hop (hi ▸ opcode_mem i)) s
  case reservedZ =>
    obtain ⟨i, hi⟩ := row_of_opcode_z hop
    exact runCommand_of_reserved (i := i) (by rw [hi]) (by rwa [hi]) s
  case reservedQ => exact runCommand_of_reserved (i := .qround 0 0 0 0) hop hr s
  case reservedN =>
    obtain hop | hop := hop
    · exact runCommand_of_reserved (i := .perm 0) hop hr s
    · exact runCommand_of_reserved (i := .blockfn 0) hop hr s
  case perm =>
    rw [← fieldN_of_reservedClear hr]
    exact runCommand_of_n (i := .perm 0) hop rfl hr s
  case blockfn =>
    rw [← fieldN_of_reservedClear hr]
    exact runCommand_of_n (i := .blockfn 0) hop rfl hr s

/-- Settles O5: the examples are the encodings of well-formed commands, so they decode by the round trip of O1. -/
theorem encodingExamplesOfTheSpec : Obligations.EncodingExamplesOfTheSpec := by
  refine ⟨fun p hp => ?_, by decide, by decide⟩
  have hencode : p.1.wellFormed = true ∧ encode p.1 = p.2 := by
    revert p
    decide
  exact ⟨hencode.2 ▸ decodeOfEncodeIsTheCommand p.1 hencode.1, hencode.2⟩

end Sys2Proof.Machine
end

section
/-! The layer below the obligations of the permutation core (40_permutation_core.md): the quarter round on a group of
matrix indices, rounds over four disjoint groups, and the inverses of both. -/

namespace Sys2Proof.Machine

/-! The quarter round (R121). -/

/-- The quarter round of four words given as one. -/
def qrQuad (q : Quad Word) : Quad Word := qr q.e0 q.e1 q.e2 q.e3

/-- One of the four lines of the quarter round: add, exclusive or, rotate. The words come out with the pairs (A, B) and
(C, D) exchanged, so that the next line is the same function with another amount. -/
def qrLine (n : Nat) (q : Quad Word) : Quad Word := ⟨q.e2, rotl32 (q.e3 ^^^ (q.e0 + q.e1)) n, q.e0 + q.e1, q.e1⟩

theorem qrQuad_eq_lines (q : Quad Word) : qrQuad q = qrLine 7 (qrLine 8 (qrLine 12 (qrLine 16 q))) := rfl

/-- The line undone. -/
def qrLineInv (n : Nat) (q : Quad Word) : Quad Word := ⟨q.e2 - q.e3, q.e3, q.e0, q.e1.rotateRight n ^^^ q.e2⟩

theorem rotateRight_rotateLeft {w : Nat} (v : BitVec w) (n : Nat) : (v.rotateLeft n).rotateRight n = v := by
  refine BitVec.eq_of_getElem_eq fun i hi => ?_
  have hlt : n % w < w := Nat.mod_lt _ (by omega)
  by_cases h : i < w - n % w
  · rw [BitVec.getElem_rotateRight, dif_pos h, BitVec.getElem_rotateLeft, dif_neg (by omega)]
    congr 1
    omega
  · rw [BitVec.getElem_rotateRight, dif_neg h, BitVec.getElem_rotateLeft, dif_pos (by omega)]
    congr 1
    omega

/-- On words of one width an inverse on one side is an inverse on both. -/
theorem rotateLeft_rotateRight {w : Nat} (v : BitVec w) (n : Nat) : (v.rotateRight n).rotateLeft n = v := by
  have hleft : Function.LeftInverse (fun u : BitVec w => u.rotateRight n) fun u => u.rotateLeft n :=
    fun u => rotateRight_rotateLeft u n
  exact hleft.rightInverse_of_surjective (Finite.surjective_of_injective hleft.injective) v

/-- A line loses nothing, rotation, exclusive or and addition each being undone by the values it leaves. -/
theorem qrLine_bijective {n : Nat} (hn : 0 < n ∧ n < 32) : Function.Bijective (qrLine n) := by
  refine Function.bijective_iff_has_inverse.2 ⟨qrLineInv n, fun q => ?_, fun q => ?_⟩
  · simp only [qrLine, qrLineInv, rotl32_eq_rotateLeft _ n hn, rotateRight_rotateLeft, BitVec.add_sub_cancel,
      BitVec.xor_assoc, BitVec.xor_self, BitVec.xor_zero]
  · simp only [qrLine, qrLineInv, rotl32_eq_rotateLeft _ n hn, BitVec.sub_add_cancel, BitVec.xor_assoc,
      BitVec.xor_self, BitVec.xor_zero, rotateLeft_rotateRight]

theorem qrQuad_bijective : Function.Bijective qrQuad :=
  (qrLine_bijective (n := 7) (by omega)).comp <| (qrLine_bijective (n := 8) (by omega)).comp <|
    (qrLine_bijective (n := 12) (by omega)).comp (qrLine_bijective (n := 16) (by omega))

/-! Reading and writing the four words of a group of indices. -/

/-- The words of x at the indices of g. -/
def Mat.words (x : Mat) (g : Quad (Fin 16)) : Quad Word := g.map (Mat.word x)

/-- x with the words of q written at the indices of g. -/
def Mat.setWords (x : Mat) (g : Quad (Fin 16)) (q : Quad Word) : Mat :=
  (((x.setWord g.e0 q.e0).setWord g.e1 q.e1).setWord g.e2 q.e2).setWord g.e3 q.e3

@[simp] theorem Mat.get_words (x : Mat) (g : Quad (Fin 16)) (l : Fin 4) : (x.words g).get l = x.word (g.get l) :=
  Quad.get_map _ _ _

/-- Two groups have no index in common. -/
abbrev Apart (g h : Quad (Fin 16)) : Prop := ∀ l m, g.get l ≠ h.get m

section groups
variable {g h : Quad (Fin 16)} (x : Mat) (q r : Quad Word)

theorem Mat.word_setWords (k : Fin 16) :
    (x.setWords g q).word k =
      if k = g.e3 then q.e3 else if k = g.e2 then q.e2 else if k = g.e1 then q.e1 else if k = g.e0 then q.e0
      else x.word k := by
  simp only [Mat.setWords, Mat.word_setWord]

theorem Mat.word_setWords_of_ne {k : Fin 16} (hk : ∀ l, k ≠ g.get l) : (x.setWords g q).word k = x.word k :=
  (Mat.word_setWords x q k).trans <|
    (if_neg (hk 3)).trans <| (if_neg (hk 2)).trans <| (if_neg (hk 1)).trans <| if_neg (hk 0)

theorem Mat.words_setWords_of_apart (hgh : Apart g h) : (x.setWords g q).words h = x.words h :=
  Quad.ext_get fun m => by
    rw [Mat.get_words, Mat.get_words, Mat.word_setWords_of_ne x q fun l => (hgh l m).symm]

theorem Mat.words_setWords_same (hg : aliased g.e0 g.e1 g.e2 g.e3 = false) : (x.setWords g q).words g = q := by
  obtain ⟨hab, hac, had, hbc, hbd, hcd⟩ := (aliased_eq_false_iff _ _ _ _).1 hg
  simp only [Mat.words, Quad.map, Mat.word_setWords, if_neg hab, if_neg hac, if_neg had, if_neg hbc, if_neg hbd,
    if_neg hcd, if_true]

theorem Mat.setWords_words : x.setWords g (x.words g) = x :=
  Mat.ext_word fun k => by
    rw [Mat.word_setWords]
    split_ifs with h3 h2 h1 h0
    · rw [h3]; rfl
    · rw [h2]; rfl
    · rw [h1]; rfl
    · rw [h0]; rfl
    · rfl

theorem Mat.setWords_setWords : (x.setWords g q).setWords g r = x.setWords g r :=
  Mat.ext_word fun k => by
    simp only [Mat.word_setWords]
    split_ifs <;> rfl

end groups

/-! The quarter round on a group (R122). -/

/-- QRAT at the indices of g. -/
def qrOn (x : Mat) (g : Quad (Fin 16)) : Mat := qrAt x g.e0 g.e1 g.e2 g.e3

theorem qrOn_eq_setWords (x : Mat) (g : Quad (Fin 16)) : qrOn x g = x.setWords g (qrQuad (x.words g)) := rfl

section qrOn
variable {g h : Quad (Fin 16)}

theorem words_qrOn_same (hg : aliased g.e0 g.e1 g.e2 g.e3 = false) (x : Mat) :
    (qrOn x g).words g = qrQuad (x.words g) :=
  Mat.words_setWords_same x _ hg

theorem words_qrOn_of_apart (hgh : Apart g h) (x : Mat) : (qrOn x g).words h = x.words h :=
  Mat.words_setWords_of_apart x _ hgh

/-- A quarter round is undone by the inverse of QR at the same indices. -/
theorem qrOn_bijective (hg : aliased g.e0 g.e1 g.e2 g.e3 = false) : Function.Bijective fun x => qrOn x g := by
  obtain ⟨inv, hleft, hright⟩ := Function.bijective_iff_has_inverse.1 qrQuad_bijective
  refine Function.bijective_iff_has_inverse.2 ⟨fun x => x.setWords g (inv (x.words g)), fun x => ?_, fun x => ?_⟩
  · simp only [qrOn_eq_setWords, Mat.words_setWords_same _ _ hg, Mat.setWords_setWords, hleft _, Mat.setWords_words]
  · simp only [qrOn_eq_setWords, Mat.words_setWords_same _ _ hg, Mat.setWords_setWords, hright _, Mat.setWords_words]

end qrOn

/-! Rounds over four groups (R123, R124). -/

/-- Four groups that together hold every index once. -/
structure IsPartition (G : Fin 4 → Quad (Fin 16)) : Prop where
  distinct : ∀ j, aliased (G j).e0 (G j).e1 (G j).e2 (G j).e3 = false
  apart : ∀ i j, i ≠ j → Apart (G i) (G j)
  cover : ∀ k, ∃ j l, k = (G j).get l

/-- The quarter rounds on the four groups, in order. -/
def roundOn (G : Fin 4 → Quad (Fin 16)) (x : Mat) : Mat := [0, 1, 2, 3].foldl (fun y j => qrOn y (G j)) x

/-- Column j, top to bottom. -/
def column (j : Fin 4) : Quad (Fin 16) := ⟨at16 j, at16 (4 + j), at16 (8 + j), at16 (12 + j)⟩

/-- Diagonal j, top to bottom. -/
def diagonal (j : Fin 4) : Quad (Fin 16) :=
  ⟨at16 j, at16 (4 + (j + 1) % 4), at16 (8 + (j + 2) % 4), at16 (12 + (j + 3) % 4)⟩

theorem col_eq_roundOn : col = roundOn column := rfl
theorem diag_eq_roundOn : diag = roundOn diagonal := rfl

theorem column_isPartition : IsPartition column := ⟨by decide, by decide, by decide⟩
theorem diagonal_isPartition : IsPartition diagonal := ⟨by decide, by decide, by decide⟩

section rounds
variable {G : Fin 4 → Quad (Fin 16)} (hG : IsPartition G)
include hG

/-- Matrices that agree on every group are equal. -/
theorem IsPartition.ext_words {x y : Mat} (h : ∀ j, x.words (G j) = y.words (G j)) : x = y :=
  Mat.ext_word fun k => by
    obtain ⟨j, l, rfl⟩ := hG.cover k
    rw [← Mat.get_words, ← Mat.get_words, h]

/-- Quarter rounds on some of the groups, each once, change those groups only and independently. -/
theorem IsPartition.words_foldl_qrOn (j : Fin 4) (js : List (Fin 4)) (hjs : js.Nodup) (x : Mat) :
    (js.foldl (fun y i => qrOn y (G i)) x).words (G j) =
      if j ∈ js then qrQuad (x.words (G j)) else x.words (G j) := by
  induction js generalizing x with
  | nil => rfl
  | cons i is ih =>
    obtain ⟨hi, his⟩ := List.nodup_cons.1 hjs
    rw [List.foldl_cons, ih his]
    by_cases hij : i = j
    · subst hij
      rw [if_neg hi, if_pos List.mem_cons_self, words_qrOn_same (hG.distinct i)]
    · simp only [words_qrOn_of_apart (hG.apart i j hij), List.mem_cons, Ne.symm hij, false_or]

/-- The order of the quarter rounds of a round does not matter (R140). -/
theorem IsPartition.foldl_qrOn_perm {is js : List (Fin 4)} (his : is.Nodup) (hperm : is.Perm js) (x : Mat) :
    is.foldl (fun y i => qrOn y (G i)) x = js.foldl (fun y i => qrOn y (G i)) x :=
  hG.ext_words fun k => by
    rw [hG.words_foldl_qrOn k is his, hG.words_foldl_qrOn k js (hperm.nodup_iff.1 his)]
    simp only [hperm.mem_iff]

theorem IsPartition.qrOn_comm {i j : Fin 4} (hij : i ≠ j) (x : Mat) :
    qrOn (qrOn x (G i)) (G j) = qrOn (qrOn x (G j)) (G i) :=
  hG.foldl_qrOn_perm (by simpa using hij) (.swap j i []) x

theorem IsPartition.words_roundOn (j : Fin 4) (x : Mat) : (roundOn G x).words (G j) = qrQuad (x.words (G j)) := by
  rw [roundOn, hG.words_foldl_qrOn j _ (by decide), if_pos (by fin_cases j <;> decide)]

theorem IsPartition.roundOn_bijective : Function.Bijective (roundOn G) :=
  (qrOn_bijective (hG.distinct 3)).comp <| (qrOn_bijective (hG.distinct 2)).comp <|
    (qrOn_bijective (hG.distinct 1)).comp (qrOn_bijective (hG.distinct 0))

end rounds

end Sys2Proof.Machine
end

section
/-! The layer below the obligations of the permutation core (40_permutation_core.md): matrices, words and commands of
the network. -/

namespace Sys2Proof.Machine

theorem words_col (x : Mat) (j : Fin 4) : (col x).words (column j) = qrQuad (x.words (column j)) :=
  column_isPartition.words_roundOn j x

theorem words_diag (x : Mat) (j : Fin 4) : (diag x).words (diagonal j) = qrQuad (x.words (diagonal j)) :=
  diagonal_isPartition.words_roundOn j x

theorem dr_bijective : Function.Bijective dr :=
  diagonal_isPartition.roundOn_bijective.comp column_isPartition.roundOn_bijective

/-! The n-fold permutation and the feed-forward (R126, R129). -/

theorem permN_eq_iterate (n : Nat) (x : Mat) : permN n x = dr^[n] x := by
  induction n generalizing x with
  | zero => rfl
  | succ n ih => exact ih (dr x)

@[simp] theorem word_addMat (x y : Mat) (i : Fin 16) : Mat.word (addMat x y) i = Mat.word x i + Mat.word y i := by
  simp only [Mat.word, addMat, Quad.get_zip]

theorem addMat_comm (x y : Mat) : addMat x y = addMat y x :=
  Mat.ext_word fun i => by rw [word_addMat, word_addMat, BitVec.add_comm]

theorem word_ff (x : Mat) (n : Nat) (i : Fin 16) :
    Mat.word (ff x n) i = Mat.word x i + Mat.word (dr^[n] x) i := by
  rw [ff, word_addMat, permN_eq_iterate]

theorem word_initMat_sigma (k : Key) (c sid : DWord) (j : Fin 4) :
    Mat.word (initMat k c sid) (at16 j) = sigma.get j := by
  fin_cases j <;> rfl

theorem word_initMat_key (k : Key) (c sid : DWord) (i : Fin 8) :
    Mat.word (initMat k c sid) (at16 (4 + i)) = k.word i := by
  fin_cases i <;> rfl

theorem sigma_ne_zero (j : Fin 4) : sigma.get j ≠ 0 := by
  revert j
  decide

/-! What a command that passes its check does, and its word (30_encoding.md R95). -/

/-- The word of a well-formed command executes it. -/
theorem runCommand_encode {i : Instr} (h : i.wellFormed = true) (s : State) : runCommand (encode i) s = exec i s :=
  runCommand_of_ok (decodeOfEncodeIsTheCommand i h) s

theorem encodeN_eq_ofNat (op : BitVec 8) {n : Nat} (hn : n < 256) :
    encodeN op n = BitVec.ofNat 32 (op.toNat + 0x100 * n) := by
  have hop := op.isLt
  apply BitVec.eq_of_toNat_eq
  rw [encodeN_toNat, BitVec.toNat_ofNat]
  omega

theorem encodeQ_eq_ofNat (op : BitVec 8) (a b c d : Fin 16) :
    encodeQ op a b c d =
      BitVec.ofNat 32 (op.toNat + 0x100 * a + 0x1000 * b + 0x10000 * c + 0x100000 * d) := by
  have hop := op.isLt
  apply BitVec.eq_of_toNat_eq
  rw [encodeQ_toNat, BitVec.toNat_ofNat]
  omega

theorem exec_qround {a b c d : Fin 16} (h : aliased a b c d = false) (s : State) :
    exec (.qround a b c d) s = .next (s.setW (qrOn s.w ⟨a, b, c, d⟩)) := by
  show Host.Outcome.next (if aliased a b c d then _ else _) = _
  rw [h]
  rfl

theorem exec_qround_aliased {a b c d : Fin 16} (h : aliased a b c d = true) (s : State) :
    exec (.qround a b c d) s = .next (reject .qrAlias s) := by
  show Host.Outcome.next (if aliased a b c d then _ else _) = _
  rw [h]
  rfl

theorem exec_perm {n : Nat} (hn : n ≠ 0) (s : State) : exec (.perm n) s = .next (s.setW (dr^[n] s.w)) := by
  rw [← permN_eq_iterate]
  exact congrArg Host.Outcome.next (if_neg hn)

theorem exec_blockfn {n : Nat} (hn : n ≠ 0) (s : State) : exec (.blockfn n) s = .next (s.setW (ff s.w n)) :=
  congrArg Host.Outcome.next (if_neg hn)

theorem exec_loadinit {s : State} (hs : s.configured = true) :
    exec .loadinit s = .next (s.setW (initMat s.activeKey s.counter s.activeStream)) :=
  congrArg Host.Outcome.next (if_pos hs)

theorem exec_regenerate {s : State} (hs : s.configured = true) : exec .regenerate s = .next (fillOut s) :=
  congrArg Host.Outcome.next (if_pos hs)

/-- DROUND commands in a row on a running engine (R141). -/
theorem perform_drounds (n : Nat) {s : State} (hs : s.condition = .running) :
    perform (List.replicate n (commandEvent .dround)) s = .next (s.setW (dr^[n] s.w)) := by
  induction n generalizing s with
  | zero => rfl
  | succ n ih =>
    have hfirst : busEvent (commandEvent .dround) s = .next (s.setW (dr s.w)) :=
      (busEvent_cmd hs _).trans (runCommand_encode rfl s)
    have hrest := ih (s := s.setW (dr s.w)) hs
    rw [List.replicate_succ, perform_cons, hfirst, andThen_next, hrest]
    rfl

end Sys2Proof.Machine
end

section
/-! The datapaths as block functions (42_backends.md): each row-vector operation is one of the network, so every
datapath fills the buffer of 41_keystream.md R161. -/

namespace Sys2Proof.Machine

/-! The software datapath (R193). -/

theorem swRounds_eq_permN (n : Nat) (x : Mat) : swRounds n x = permN n x := by
  induction n generalizing x with
  | zero => rfl
  | succ n ih => exact ih _

theorem swBlock_eq_block (k : Key) (sid : DWord) (r : Nat) (c : DWord) : swBlock k sid r c = block k c sid r :=
  Mat.ext_word fun j => by
    rw [swBlock, Mat.word_ofFn, swRounds_eq_permN, block, ff, addMat_comm, word_addMat]

/-! Four lanes (R194 to R196). -/

/-- The four rows of a matrix as row vectors. -/
def rowsOf (x : Mat) : Rows Row := ⟨x.e0, x.e1, x.e2, x.e3⟩

/-- Rows 1, 2 and 3 rotated so that the diagonals stand in the columns (R196). -/
def shuffled (x : Mat) : Mat := ⟨x.e0, vshuf4 x.e1 1, vshuf4 x.e2 2, vshuf4 x.e3 3⟩

/-- Rows 1, 2 and 3 rotated back. -/
def unshuffled (x : Mat) : Mat := ⟨x.e0, vshuf4 x.e1 3, vshuf4 x.e2 2, vshuf4 x.e3 1⟩

theorem words_shuffled (x : Mat) (j : Fin 4) : (shuffled x).words (column j) = x.words (diagonal j) := by
  fin_cases j <;> rfl

theorem words_unshuffled (x : Mat) (j : Fin 4) : (unshuffled x).words (diagonal j) = x.words (column j) := by
  fin_cases j <;> rfl

/-- The quarter round on row vectors is the column round, lane j being column j. -/
theorem quarterLines_ops4 (x : Mat) : quarterLines ops4 x.e0 x.e1 x.e2 x.e3 = col x := by
  refine column_isPartition.ext_words fun j => ?_
  rw [words_col]
  fin_cases j <;> rfl

/-- The diagonal round is the column round between the two rotations of the rows. -/
theorem diag_eq_unshuffled (x : Mat) : diag x = unshuffled (col (shuffled x)) :=
  diagonal_isPartition.ext_words fun j => by
    rw [words_diag, words_unshuffled, words_col, words_shuffled]

theorem vectorDouble_ops4 (x : Mat) : vectorDouble ops4 vshuf4 (rowsOf x) = rowsOf (dr x) := by
  have hcol := quarterLines_ops4 x
  have hdiag := quarterLines_ops4 (shuffled (col x))
  rw [dr, diag_eq_unshuffled, ← hdiag, ← hcol]
  rfl

theorem vectorRounds_ops4 (n : Nat) (x : Mat) : vectorRounds ops4 vshuf4 n (rowsOf x) = rowsOf (permN n x) := by
  induction n generalizing x with
  | zero => rfl
  | succ n ih => rw [vectorRounds, vectorDouble_ops4, ih, permN]

theorem addRows_ops4 (x y : Mat) : addRows ops4 (rowsOf x) (rowsOf y) = rowsOf (addMat x y) := rfl

/-- Four row vectors as the matrix they hold. -/
def Rows.mat (x : Rows Row) : Mat := ⟨x.a, x.b, x.c, x.d⟩

/-- The rows of an initial matrix, run and added to those saved, hold the block (R195, R199). -/
theorem mat_addRows_vectorRounds (k : Key) (c sid : DWord) (r : Nat) :
    (addRows ops4 (vectorRounds ops4 vshuf4 r (rowsOf (initMat k c sid))) (rowsOf (initMat k c sid))).mat =
      block k c sid r := by
  rw [vectorRounds_ops4, addRows_ops4, addMat_comm]
  rfl

theorem v128Block_eq_block (k : Key) (sid : DWord) (r : Nat) (c : DWord) :
    v128Block k sid r c = block k c sid r :=
  mat_addRows_vectorRounds k c sid r

/-! Eight lanes (R197 to R199): each half runs on its own. -/

/-- f applied to each of the four row vectors. -/
def Rows.map {α β : Type} (f : α → β) (x : Rows α) : Rows β := ⟨f x.a, f x.b, f x.c, f x.d⟩

/-- f takes the operations on lanes of one kind to those on lanes of another. -/
structure LaneHom {α β : Type} (f : α → β) (o : LaneOps α) (shuf : α → Nat → α) (p : LaneOps β)
    (shuf' : β → Nat → β) : Prop where
  add : ∀ u v, f (o.add u v) = p.add (f u) (f v)
  xor : ∀ u v, f (o.xor u v) = p.xor (f u) (f v)
  rotl : ∀ v n, f (o.rotl v n) = p.rotl (f v) n
  shuf : ∀ v n, f (shuf v n) = shuf' (f v) n

theorem half0_laneHom : LaneHom Vec8.half0 ops8 vshuf8 ops4 vshuf4 :=
  ⟨fun _ _ => rfl, fun _ _ => rfl, fun _ _ => rfl, fun _ _ => rfl⟩

theorem half1_laneHom : LaneHom Vec8.half1 ops8 vshuf8 ops4 vshuf4 :=
  ⟨fun _ _ => rfl, fun _ _ => rfl, fun _ _ => rfl, fun _ _ => rfl⟩

section laneHom
variable {α β : Type} {f : α → β} {o : LaneOps α} {shuf : α → Nat → α} {p : LaneOps β} {shuf' : β → Nat → β}
  (hf : LaneHom f o shuf p shuf')
include hf

theorem LaneHom.map_vectorDouble (x : Rows α) :
    (vectorDouble o shuf x).map f = vectorDouble p shuf' (x.map f) := by
  simp only [vectorDouble, quarterLines, Rows.map, hf.add, hf.xor, hf.rotl, hf.shuf]

theorem LaneHom.map_vectorRounds (n : Nat) (x : Rows α) :
    (vectorRounds o shuf n x).map f = vectorRounds p shuf' n (x.map f) := by
  induction n generalizing x with
  | zero => rfl
  | succ n ih => rw [vectorRounds, ih, hf.map_vectorDouble, vectorRounds]

theorem LaneHom.map_addRows (x y : Rows α) : (addRows o x y).map f = addRows p (x.map f) (y.map f) := by
  simp only [addRows, Rows.map, hf.add]

end laneHom

/-- Half 0 of V256 invocation m holds the block of counter C + 2m (R198, R199). -/
theorem half0Block_v256Pair (k : Key) (sid : DWord) (r : Nat) (c : DWord) (m : Nat) :
    half0Block (v256Pair k sid r c m) = block k (c + BitVec.ofNat 64 (2 * m)) sid r := by
  show ((v256Pair k sid r c m).map Vec8.half0).mat = _
  rw [v256Pair, half0_laneHom.map_addRows, half0_laneHom.map_vectorRounds]
  exact mat_addRows_vectorRounds k _ sid r

/-- Half 1 of V256 invocation m holds the block of counter C + (2m + 1) (R198, R199). -/
theorem half1Block_v256Pair (k : Key) (sid : DWord) (r : Nat) (c : DWord) (m : Nat) :
    half1Block (v256Pair k sid r c m) = block k (c + BitVec.ofNat 64 (2 * m + 1)) sid r := by
  show ((v256Pair k sid r c m).map Vec8.half1).mat = _
  rw [v256Pair, half1_laneHom.map_addRows, half1_laneHom.map_vectorRounds]
  exact mat_addRows_vectorRounds k _ sid r

/-- The buffer block by block. -/
theorem buf_eq_ofFn (k : Key) (sid : DWord) (r : Nat) (c : DWord) :
    buf k sid r c = Quad.ofFn fun b => block k (c + BitVec.ofNat 64 b.val) sid r := by
  have hzero : c + BitVec.ofNat 64 0 = c := BitVec.add_zero c
  show _ = Quad.mk (block k (c + BitVec.ofNat 64 0) sid r) _ _ _
  rw [hzero]
  rfl

/-- Whichever datapath is bound, it fills the buffer of R161. -/
theorem fillBuffer_eq_buf (bk : Option Backend) (k : Key) (sid : DWord) (r : Nat) (c : DWord) :
    fillBuffer bk k sid r c = buf k sid r c := by
  rw [buf_eq_ofFn]
  match bk with
  | none | some .sw => simp only [fillBuffer, swFill, swBlock_eq_block]
  | some .v128 => simp only [fillBuffer, v128Fill, v128Block_eq_block]
  | some .v256 =>
    simp only [fillBuffer, v256Fill, half0Block_v256Pair, half1Block_v256Pair]
    rfl

/-- The first sixteen words of OUT are block 0 (10_state.md R34). -/
theorem Buffer.word_first (o : Buffer) (j : Fin 16) : Buffer.word o (at64 j) = Mat.word o.e0 j := by
  have hj : at64 j = ⟨16 * (0 : Fin 4).val + j.val, buffer_index 0 j⟩ := Fin.ext (by simp [at64]; omega)
  rw [hj, Buffer.word_block]
  rfl

end Sys2Proof.Machine
end

section
/-! The obligations of the permutation core (40_permutation_core.md). -/

namespace Sys2Proof.Machine

/-- Settles O20: the model's rotation is the core's left rotation for the four amounts. -/
theorem quarterRoundIsTheFourLines : Obligations.QuarterRoundIsTheFourLines := by
  intro a b c d
  simp only [← rotl32_eq_rotateLeft _ 16 (by omega), ← rotl32_eq_rotateLeft _ 12 (by omega),
    ← rotl32_eq_rotateLeft _ 8 (by omega), ← rotl32_eq_rotateLeft _ 7 (by omega)]
  rfl

/-- Settles O21, from what the quarter round on a group writes at the group and leaves elsewhere. -/
theorem qroundAppliesQRAtItsIndices : Obligations.QroundAppliesQRAtItsIndices := by
  refine ⟨fun a b c d s hab hac had hbc hbd hcd => ?distinct, fun a b c d s heq => ?aliased, fun a b c d s => ?word,
    fun v s hop hr => runCommand_of_reserved (i := .qround 0 0 0 0) hop hr s⟩
  case distinct =>
    have hg : aliased a b c d = false := (aliased_eq_false_iff a b c d).2 ⟨hab, hac, had, hbc, hbd, hcd⟩
    obtain ⟨ha, hb, hc, hd⟩ := Quad.mk.inj (words_qrOn_same (g := ⟨a, b, c, d⟩) hg s.w)
    refine ⟨_, exec_qround hg s, ha, hb, hc, hd, fun k hka hkb hkc hkd => ?_, rfl⟩
    refine Mat.word_setWords_of_ne s.w _ fun l => ?_
    fin_cases l <;> assumption
  case aliased =>
    refine exec_qround_aliased (Bool.eq_true_of_not_eq_false fun hg => ?_) s
    obtain ⟨hab, hac, had, hbc, hbd, hcd⟩ := (aliased_eq_false_iff a b c d).1 hg
    tauto
  case word => exact encodeQ_eq_ofNat 0x10 a b c d ▸ runCommand_encode (i := .qround a b c d) rfl s

/-- Settles O22, column by column. -/
theorem colroundAppliesQRToColumns : Obligations.ColroundAppliesQRToColumns := fun s =>
  ⟨s.setW (col s.w), rfl, runCommand_encode (i := .colround) rfl s, fun j => Quad.mk.inj (words_col s.w j), rfl,
    fun _ hop hr => runCommand_of_reserved (i := .colround) hop hr s⟩

/-- Settles O23, diagonal by diagonal. -/
theorem diagroundAppliesQRToDiagonals : Obligations.DiagroundAppliesQRToDiagonals := fun s =>
  ⟨s.setW (diag s.w), rfl, runCommand_encode (i := .diaground) rfl s, fun j => Quad.mk.inj (words_diag s.w j), rfl,
    fun _ hop hr => runCommand_of_reserved (i := .diaground) hop hr s⟩

/-- Settles O24: DR is DIAG after COL by definition. -/
theorem droundIsColroundThenDiaground : Obligations.DroundIsColroundThenDiaground := fun s =>
  ⟨s.setW (col s.w), s.setW (dr s.w), rfl, rfl, rfl, runCommand_encode (i := .dround) rfl s, rfl,
    fun _ hop hr => runCommand_of_reserved (i := .dround) hop hr s⟩

/-- Settles O25, from the rules for PERM, its word and its reserved field. -/
theorem permAppliesDRnTimes : Obligations.PermAppliesDRnTimes := by
  refine ⟨fun n s hn => exec_perm hn s, fun s => rfl, fun n s hn => ?_,
    fun v s hop hr => runCommand_of_reserved (i := .perm 0) hop hr s⟩
  exact encodeN_eq_ofNat 0x14 hn ▸ runCommand_encode (i := .perm n) (decide_eq_true hn) s

/-- Settles O26, from the rules for BLOCKFN, its word and its reserved field. -/
theorem blockfnAddsThePermutedMatrix : Obligations.BlockfnAddsThePermutedMatrix := by
  refine ⟨fun n s hn => ⟨_, exec_blockfn hn s, fun i => ?_, rfl⟩, fun s => rfl, fun n s hn => ?_,
    fun v s hop hr => runCommand_of_reserved (i := .blockfn 0) hop hr s⟩
  · exact (word_ff s.w n i).trans (BitVec.add_comm _ _)
  · exact encodeN_eq_ofNat 0x15 hn ▸ runCommand_encode (i := .blockfn n) (decide_eq_true hn) s

/-- Settles O27: the words of the initial matrix are those of SIGMA, the key and the halves of C and AS. -/
theorem loadinitWritesTheInitialMatrix : Obligations.LoadinitWritesTheInitialMatrix := by
  refine fun s => ⟨fun hs => ?_, fun hs => congrArg Host.Outcome.next (if_neg (by simp [hs])),
    runCommand_encode (i := .loadinit) rfl s, fun v hop hr => runCommand_of_reserved (i := .loadinit) hop hr s⟩
  exact ⟨_, exec_loadinit hs, rfl, rfl, rfl, rfl, word_initMat_key _ _ _, lo32_toNat _, hi32_toNat _, lo32_toNat _,
    hi32_toNat _, rfl⟩

/-- Settles O44: were the block the permuted matrix, word 0 of the initial matrix, which is SIGMA's, would be 0. -/
theorem blockIsFeedForwardOfPermutation : Obligations.BlockIsFeedForwardOfPermutation := by
  refine fun k c sid r => ⟨word_ff _ r, fun heq => ?_⟩
  have hword := word_ff (initMat k c sid) r 0
  rw [show ff (initMat k c sid) r = _ from heq] at hword
  have hzero : Mat.word (initMat k c sid) 0 = 0 := by simpa using hword
  exact sigma_ne_zero 0 hzero

/-- Settles O45: the zero matrix is fixed by COL and DIAG, hence by every iterate, and SIGMA has no zero word. -/
theorem zeroMatrixIsAFixedPoint : Obligations.ZeroMatrixIsAFixedPoint := by
  have hdr : dr Mat.zero = Mat.zero := by decide
  have hperm (n : Nat) : permN n Mat.zero = Mat.zero := by
    rw [permN_eq_iterate, Function.iterate_fixed hdr]
  refine ⟨by decide, by decide, by decide, hdr, fun n => ⟨hperm n, ?_⟩, fun k c sid j => ?_⟩
  · rw [ff, hperm]
    decide
  · rw [word_initMat_sigma]
    exact sigma_ne_zero j

/-- Settles O46: the columns are apart from one another, and so are the diagonals. -/
theorem quarterRoundsOfARoundCommute : Obligations.QuarterRoundsOfARoundCommute := fun x _ _ hij =>
  ⟨column_isPartition.qrOn_comm hij x, diagonal_isPartition.qrOn_comm hij x⟩

/-- Settles O47: PERM_n is the n-th iterate of DR, and DR is a bijection because every quarter round is. -/
theorem permutationComposesAndIsBijective : Obligations.PermutationComposesAndIsBijective := by
  have hperm (n : Nat) : permN n = dr^[n] := funext (permN_eq_iterate n)
  refine ⟨fun m n x => ?_, fun n s hn hs => ?_, qrQuad_bijective, dr_bijective, fun n => ?_⟩
  · rw [hperm, hperm, hperm, Nat.add_comm, Function.iterate_add_apply]
  · rw [perform_drounds n hs, exec_perm hn]
  · rw [hperm]
    exact dr_bijective.iterate n

/-- Settles O51: every datapath puts the block of counter C first, and LOADINIT and BLOCKFN compute it in W. -/
theorem networkCommandsReproduceTheKeystream : Obligations.NetworkCommandsReproduceTheKeystream := by
  intro s hs hr
  have hn : s.activeRounds.toNat ≠ 0 := fun h => hr (BitVec.eq_of_toNat_eq h)
  refine ⟨_, _, _, exec_loadinit hs, exec_blockfn hn _, exec_regenerate hs, fun j => ?_⟩
  rw [Buffer.word_first, fillOut, State.setOut_out, fillBuffer_eq_buf]
  rfl

end Sys2Proof.Machine
end

section
/-! The layer below the obligations of the keystream (41_keystream.md): the words of a counter and of a buffer, and
what CONFIG, GENERATE and SETCTR do. -/

namespace Sys2Proof.Machine

/-! Counters and words (R160 to R162). -/

/-- Lanes 0 and 1 of the counter row m blocks on: the addition carries into lane 1 and wraps (R162). -/
theorem counterRow_add_toNat (c sid : DWord) (m : Nat) :
    (counterRow (c + BitVec.ofNat 64 m) sid).e0.toNat = (c.toNat + m) % 2 ^ 32 ∧
    (counterRow (c + BitVec.ofNat 64 m) sid).e1.toNat = (c.toNat + m) % 2 ^ 64 / 2 ^ 32 := by
  have hsum : (c + BitVec.ofNat 64 m).toNat = (c.toNat + m) % 2 ^ 64 := by
    rw [BitVec.toNat_add, BitVec.toNat_ofNat, Nat.add_mod_mod]
  constructor
  · show (lo32 _).toNat = _
    rw [lo32_toNat, hsum, Nat.mod_mod_of_dvd _ (Nat.pow_dvd_pow 2 (by omega))]
  · show (hi32 _).toNat = _
    rw [hi32_toNat, hsum]

/-- Word 16b + j of a buffer is word j of the block b counters on (R161). -/
theorem word_buf (k : Key) (sid : DWord) (r : Nat) (c : DWord) (b : Fin 4) (j : Fin 16) :
    Buffer.word (buf k sid r c) (at64 (16 * b + j)) = Mat.word (block k (c + BitVec.ofNat 64 b) sid r) j := by
  have hindex : at64 (16 * b + j) = ⟨16 * b + j, buffer_index b j⟩ :=
    Fin.ext (Nat.mod_eq_of_lt (buffer_index b j))
  rw [hindex, Buffer.word_block, buf_eq_ofFn, Quad.get_ofFn]

/-- Position 16b + j of the keystream is word j of block b (R160). -/
theorem keystream_block (k : Key) (sid : DWord) (r b : Nat) (j : Fin 16) :
    keystream k sid r (16 * b + j) = Mat.word (block k (BitVec.ofNat 64 b) sid r) j := by
  have hdiv : (16 * b + j.val) / 16 = b := by omega
  have hmod : (16 * b + j.val) % 16 = j.val := by omega
  simp only [keystream, hdiv, hmod]

/-- The buffer at block b holds the 64 keystream words from position 16b on (R160, R161). -/
theorem word_buf_eq_keystream (k : Key) (sid : DWord) (r b : Nat) (i : Fin 64) :
    Buffer.word (buf k sid r (BitVec.ofNat 64 b)) i = keystream k sid r (16 * b + i) := by
  have hpos : 16 * b + i.val = 16 * (b + i.val / 16) + (at16 i).val := by
    simp only [at16]
    omega
  have hindex : i = at64 (16 * (⟨i.val / 16, by omega⟩ : Fin 4) + at16 i) := by
    ext
    simp only [at64, at16]
    omega
  rw [hpos, keystream_block, hindex, word_buf, BitVec.ofNat_add, ← hindex]

/-! Filling OUT. -/

/-- Whichever datapath is bound, OUT receives the buffer of R161 at C. -/
theorem fillOut_eq_setOut_buf (s : State) :
    fillOut s = s.setOut (buf s.activeKey s.activeStream s.activeRounds.toNat s.counter) := by
  rw [fillOut, fillBuffer_eq_buf]

theorem word_fillOut (s : State) (b : Fin 4) (j : Fin 16) :
    Buffer.word (fillOut s).out (at64 (16 * b + j)) =
      Mat.word (block s.activeKey (s.counter + BitVec.ofNat 64 b) s.activeStream s.activeRounds.toNat) j := by
  rw [fillOut_eq_setOut_buf, State.setOut_out, word_buf]

/-- A second filling at the same C finds OUT filled (R166). -/
theorem fillOut_fillOut (s : State) : fillOut (fillOut s) = fillOut s := rfl

/-! The commands that need an active configuration. -/

theorem ifConfigured_of_unconfigured {s : State} (hs : s.configured = false) (f : State → State) :
    ifConfigured s f = reject .notConfigured s := by
  rw [ifConfigured, hs]
  rfl

theorem exec_generate {s : State} (hs : s.configured = true) :
    exec .generate s = .next ((fillOut s).setCounter (s.counter + 4)) :=
  congrArg Host.Outcome.next (if_pos hs)

theorem exec_setctr {s : State} (hs : s.configured = true) :
    exec .setctr s = .next (s.setCounter (stagedCounter s)) :=
  congrArg Host.Outcome.next (if_pos hs)

/-- One GENERATE command on a configured, running engine (R165). -/
theorem busEvent_generate {s : State} (hc : s.configured = true) (hs : s.condition = .running) :
    busEvent (commandEvent .generate) s =
      .next ((s.setOut (buf s.activeKey s.activeStream s.activeRounds.toNat s.counter)).setCounter
        (s.counter + 4)) := by
  have hcmd : busEvent (commandEvent .generate) s = exec .generate s :=
    (busEvent_cmd hs _).trans (runCommand_encode rfl s)
  rw [hcmd, exec_generate hc, fillOut_eq_setOut_buf]

/-- m + 1 GENERATE commands in a row on a configured, running engine: C advances by 4 with each, and OUT is the
buffer of the last (R169). -/
theorem perform_generates {s : State} (hc : s.configured = true) (hs : s.condition = .running) (m : Nat) :
    perform (List.replicate (m + 1) (commandEvent .generate)) s =
      .next ((s.setOut (buf s.activeKey s.activeStream s.activeRounds.toNat
        (s.counter + BitVec.ofNat 64 (4 * m)))).setCounter (s.counter + BitVec.ofNat 64 (4 * (m + 1)))) := by
  induction m with
  | zero =>
    have hzero : s.counter + BitVec.ofNat 64 (4 * 0) = s.counter := BitVec.add_zero _
    rw [hzero, List.replicate_one, perform_cons, busEvent_generate hc hs]
    rfl
  | succ m ih =>
    have hadd : s.counter + BitVec.ofNat 64 (4 * (m + 1 + 1)) = s.counter + BitVec.ofNat 64 (4 * (m + 1)) + 4 := by
      rw [Nat.mul_succ, BitVec.ofNat_add, ← BitVec.add_assoc]
      rfl
    rw [List.replicate_succ', perform_append, ih, andThen_next, perform_cons,
      busEvent_generate (by simp [hc]) (by simp [hs]), hadd]
    rfl

/-! CONFIG (R163). -/

theorem exec_config_of_error {s : State} {e : CmdError} (h : configCheck s = .error e) :
    exec .config s = .next (reject e s) := by
  show execConfig s = _
  rw [execConfig, h]

theorem exec_config_of_ok {s : State} {b : Backend} (h : configCheck s = .ok b) :
    exec .config s = .next (((s.setActive s.key (stagedStream s) s.rounds b).setCounter 0).setOut Buffer.zero) := by
  show execConfig s = _
  rw [execConfig, h]

theorem configCheck_of_zero {s : State} (h : s.rounds = 0) : configCheck s = .error .roundsZero :=
  if_pos h

theorem configCheck_of_unsupported {s : State} (h0 : s.rounds ≠ 0)
    (h : ¬(s.rounds = 4 ∨ s.rounds = 6 ∨ s.rounds = 10)) : configCheck s = .error .roundsUnsupported :=
  (if_neg h0).trans (if_pos h)

/-- With a legal ROUNDS the check answers what SELECT does. -/
theorem configCheck_of_supported {s : State} (h : s.rounds = 4 ∨ s.rounds = 6 ∨ s.rounds = 10) :
    configCheck s = (select s.backendForce s.hasV128 s.hasV256).elim (.error .backendAbsent) .ok := by
  have h0 : s.rounds ≠ 0 := by
    rcases h with h | h | h <;> rw [h] <;> decide
  rw [configCheck, if_neg h0, if_neg (not_not_intro h)]
  cases select s.backendForce s.hasV128 s.hasV256 <;> rfl

end Sys2Proof.Machine
end

section
/-! The obligations of the keystream (41_keystream.md). -/

namespace Sys2Proof.Machine

/-- Settles O28, one clause for each answer of CONFIG's checks. -/
theorem configChecksThenLatches : Obligations.ConfigChecksThenLatches := by
  refine fun s => ⟨fun h0 => ?zero, fun h0 h4 h6 h10 => ?unsupported,
    fun hr => ⟨fun hb => ?absent, fun b hb => ?bound⟩, runCommand_encode (i := .config) rfl s,
    fun v hop hv => runCommand_of_reserved (i := .config) hop hv s⟩
  case zero => exact exec_config_of_error (configCheck_of_zero h0)
  case unsupported =>
    exact exec_config_of_error (configCheck_of_unsupported h0 (not_or.2 ⟨h4, not_or.2 ⟨h6, h10⟩⟩))
  case absent => exact exec_config_of_error (by rw [configCheck_of_supported hr, hb]; rfl)
  case bound => exact exec_config_of_ok (by rw [configCheck_of_supported hr, hb]; rfl)

/-- Settles O30: every datapath fills OUT with the four blocks at C. -/
theorem generateFillsFourBlocksAndAdvances : Obligations.GenerateFillsFourBlocksAndAdvances := fun s =>
  ⟨fun hs => ⟨_, exec_generate hs, word_fillOut s, rfl⟩,
    fun hs => congrArg Host.Outcome.next (ifConfigured_of_unconfigured hs _),
    runCommand_encode (i := .generate) rfl s, fun _ hop hv => runCommand_of_reserved (i := .generate) hop hv s⟩

/-- Settles O31: OUT is filled as by GENERATE, and filling it again at the same C changes nothing. -/
theorem regenerateFillsFourBlocksOnly : Obligations.RegenerateFillsFourBlocksOnly := fun s =>
  ⟨fun hs => ⟨_, exec_regenerate hs, word_fillOut s, rfl,
      (exec_regenerate (s := fillOut s) hs).trans (congrArg Host.Outcome.next (fillOut_fillOut s))⟩,
    fun hs => congrArg Host.Outcome.next (ifConfigured_of_unconfigured hs _),
    runCommand_encode (i := .regenerate) rfl s, fun _ hop hv => runCommand_of_reserved (i := .regenerate) hop hv s⟩

/-- Settles O41: each datapath's vectors compute the block function. -/
theorem everyDatapathComputesTheBuffer : Obligations.EveryDatapathComputesTheBuffer :=
  fillBuffer_eq_buf

/-- Settles O43: every datapath takes its counter words from the counter row of a sum modulo 2^64. -/
theorem blockCountersCarryAndWrap : Obligations.BlockCountersCarryAndWrap := by
  intro k sid c m _
  obtain ⟨hlo, hhi⟩ := counterRow_add_toNat c sid m
  obtain ⟨hlo0, hhi0⟩ := counterRow_add_toNat c sid (2 * m)
  obtain ⟨hlo1, hhi1⟩ := counterRow_add_toNat c sid (2 * m + 1)
  exact ⟨hlo, hhi, hlo, hhi, fun _ => ⟨hlo0, hhi0, hlo1, hhi1⟩⟩

/-- Settles O48: after m + 1 GENERATEs OUT is the buffer at C + 4m, which is a segment of the keystream. -/
theorem generationIsContinuous : Obligations.GenerationIsContinuous := by
  intro s m hc hs
  refine ⟨_, perform_generates hc hs m, rfl, fun i => ?_⟩
  have hblock : s.counter + BitVec.ofNat 64 (4 * m) = BitVec.ofNat 64 (s.counter.toNat + 4 * m) := by
    rw [BitVec.ofNat_add, BitVec.ofNat_toNat, BitVec.setWidth_eq]
  rw [State.setCounter_out, State.setOut_out, hblock, word_buf_eq_keystream]

/-- Settles O32: the staged halves are the high and the low word of C. -/
theorem setctrLoadsTheStagedCounter : Obligations.SetctrLoadsTheStagedCounter := fun s =>
  ⟨fun hs => ⟨stagedCounter s, exec_setctr hs, pair64_toNat _ _⟩,
    fun hs => congrArg Host.Outcome.next (ifConfigured_of_unconfigured hs _),
    runCommand_encode (i := .setctr) rfl s, fun _ hop hv => runCommand_of_reserved (i := .setctr) hop hv s⟩

end Sys2Proof.Machine
end

section
/-! The layer below the obligations of the backends (42_backends.md): what SELECT hides of the build, and two engines
that differ only in the bound backend and the datapaths built. -/

namespace Sys2Proof.Machine

/-! Eight-lane rows (R194). -/

/-- Eight-lane rows with the same halves are equal. -/
theorem Rows.ext_halves {x y : Rows Vec8} (h0 : x.map Vec8.half0 = y.map Vec8.half0)
    (h1 : x.map Vec8.half1 = y.map Vec8.half1) : x = y := by
  obtain ⟨⟨_, _⟩, ⟨_, _⟩, ⟨_, _⟩, ⟨_, _⟩⟩ := x
  obtain ⟨⟨_, _⟩, ⟨_, _⟩, ⟨_, _⟩, ⟨_, _⟩⟩ := y
  cases h0
  cases h1
  rfl

/-- The rows of two matrices paired, x in half 0 and y in half 1. -/
def pairedRows (x y : Mat) : Rows Vec8 := ⟨⟨x.e0, y.e0⟩, ⟨x.e1, y.e1⟩, ⟨x.e2, y.e2⟩, ⟨x.e3, y.e3⟩⟩

@[simp] theorem map_half0_pairedRows (x y : Mat) : (pairedRows x y).map Vec8.half0 = rowsOf x := rfl
@[simp] theorem map_half1_pairedRows (x y : Mat) : (pairedRows x y).map Vec8.half1 = rowsOf y := rfl

theorem vectorDouble_ops8 (x y : Mat) :
    vectorDouble ops8 vshuf8 (pairedRows x y) = pairedRows (dr x) (dr y) := by
  apply Rows.ext_halves
  · rw [half0_laneHom.map_vectorDouble, map_half0_pairedRows, vectorDouble_ops4, map_half0_pairedRows]
  · rw [half1_laneHom.map_vectorDouble, map_half1_pairedRows, vectorDouble_ops4, map_half1_pairedRows]

/-! Engines that differ only in the bound backend and the build (R192). -/

/-- With no vector datapath forced, every build has a backend to bind (R191). -/
theorem select_of_unforced {f : BitVec 2} (hf : f.toNat ≤ 1) (x y : Bool) : ∃ b, select f x y = some b := by
  have hcases : f = 0 ∨ f = 1 := by bv_omega
  obtain rfl | rfl := hcases
  · exact ⟨_, rfl⟩
  · exact ⟨_, rfl⟩

/-- An idle engine keeps its state (60_exceptions.md R264). -/
theorem step_of_idle {s : State} (hb : s.bus = []) : step s = .next s := by
  rw [step, hb]

/-- The first pending event is performed on the state with it taken off the queue (20_memory.md R73). -/
theorem step_of_pending {s : State} {e : HostEvent} {rest : List HostEvent} (hb : s.bus = e :: rest) :
    step s = busEvent e (s.setBus rest) := by
  rw [step, hb]

/-- s with another backend bound and other datapaths built. -/
def withBackend (s : State) (b : Option Backend) (x y : Bool) : State :=
  { s with backend := b, hasV128 := x, hasV256 := y }

/-- s and t agree but for the bound backend and the datapaths built. -/
def EqExceptBackend (s t : State) : Prop :=
  s = { t with backend := s.backend, hasV128 := s.hasV128, hasV256 := s.hasV256 }

theorem EqExceptBackend.replies_eq {s t : State} (h : EqExceptBackend s t) : s.replies = t.replies := by
  unfold EqExceptBackend at h
  have hreplies := congrArg State.replies h
  exact hreplies

/-- States that agree in the answered words too meet both clauses of the statement, under any condition. -/
theorem EqExceptBackend.same_but_replies {s t : State} (h : EqExceptBackend s t) {p : Prop} :
    s = { t with backend := s.backend, hasV128 := s.hasV128, hasV256 := s.hasV256, replies := s.replies } ∧
      (p → t.replies = s.replies) := by
  refine ⟨?_, fun _ => h.replies_eq.symm⟩
  rw [h.replies_eq]
  exact h

/-- The build cannot show in what SELECT finds: CTRL forces no vector datapath, or the build is the same. -/
def BuildHidden (s : State) (x y : Bool) : Prop :=
  s.backendForce.toNat ≤ 1 ∨ x = s.hasV128 ∧ y = s.hasV256

section backend
variable (s : State) (b : Option Backend) (x y : Bool)

@[simp] theorem withBackend_condition : (withBackend s b x y).condition = s.condition := rfl
@[simp] theorem withBackend_bus : (withBackend s b x y).bus = s.bus := rfl

theorem eqExceptBackend_withBackend : EqExceptBackend s (withBackend s b x y) := rfl

/-- CONFIG's checks give the same rejection, or both find a backend. -/
theorem configCheck_withBackend (hs : BuildHidden s x y) :
    (∃ e, configCheck s = .error e ∧ configCheck (withBackend s b x y) = .error e) ∨
    (∃ c c', configCheck s = .ok c ∧ configCheck (withBackend s b x y) = .ok c') := by
  by_cases h0 : s.rounds = 0
  · exact .inl ⟨_, configCheck_of_zero h0, configCheck_of_zero h0⟩
  by_cases hr : s.rounds = 4 ∨ s.rounds = 6 ∨ s.rounds = 10
  · have hcheck := configCheck_of_supported hr
    have hcheck' : configCheck (withBackend s b x y) = (select s.backendForce x y).elim _ _ :=
      configCheck_of_supported (s := withBackend s b x y) hr
    rw [hcheck, hcheck']
    obtain hf | ⟨rfl, rfl⟩ := hs
    · obtain ⟨c, hc⟩ := select_of_unforced hf s.hasV128 s.hasV256
      obtain ⟨c', hc'⟩ := select_of_unforced hf x y
      rw [hc, hc']
      exact .inr ⟨c, c', rfl, rfl⟩
    · cases select s.backendForce s.hasV128 s.hasV256 with
      | none => exact .inl ⟨_, rfl, rfl⟩
      | some c => exact .inr ⟨c, c, rfl, rfl⟩
  · exact .inl ⟨_, configCheck_of_unsupported h0 hr, configCheck_of_unsupported h0 hr⟩

/-- The bound datapath does not show in OUT, since every datapath fills the same buffer. -/
theorem fillOut_withBackend : fillOut (withBackend s b x y) = withBackend (fillOut s) b x y := by
  rw [fillOut_eq_setOut_buf, fillOut_eq_setOut_buf]
  rfl

theorem ifConfigured_withBackend {f : State → State}
    (hf : EqExceptBackend (f s) (f (withBackend s b x y))) :
    EqExceptBackend (ifConfigured s f) (ifConfigured (withBackend s b x y) f) := by
  show EqExceptBackend (if s.configured then _ else _) (if s.configured then _ else _)
  split
  · exact hf
  · rfl

/-- A command does the same on both engines: CONFIG accepts on both or on neither, and the other commands either do
not read the backend or fill OUT. -/
theorem exec_withBackend (hs : BuildHidden s x y) (i : Instr) :
    OutcomeRel EqExceptBackend (exec i s) (exec i (withBackend s b x y)) := by
  cases i with
  | nop | clrerr | colround | diaground | dround => exact .next rfl
  | config =>
    obtain ⟨e, he, he'⟩ | ⟨c, c', hc, hc'⟩ := configCheck_withBackend s b x y hs
    · rw [exec_config_of_error he, exec_config_of_error he']
      exact .next rfl
    · rw [exec_config_of_ok hc, exec_config_of_ok hc']
      exact .next rfl
  | generate | regenerate =>
    refine .next (ifConfigured_withBackend s b x y ?_)
    rw [fillOut_withBackend]
    rfl
  | setctr | loadinit => exact .next (ifConfigured_withBackend s b x y rfl)
  | qround a b c d =>
    refine .next ?_
    split <;> rfl
  | perm n | blockfn n =>
    refine .next ?_
    unfold ifCounted
    split <;> rfl

theorem runCommand_withBackend (hs : BuildHidden s x y) (v : Word) :
    OutcomeRel EqExceptBackend (runCommand v s) (runCommand v (withBackend s b x y)) := by
  obtain ⟨e, hv, he⟩ | ⟨i, hv, he⟩ := runCommand_cases v s <;> rw [he]
  · rw [runCommand_of_error hv]
    exact .next rfl
  · rw [runCommand_of_ok hv]
    exact exec_withBackend s b x y hs i

theorem losePower_withBackend : losePower (withBackend s b x y) = withBackend (losePower s) b x y := by
  simp only [losePower, withBackend_condition]
  cases s.condition <;> rfl

/-- A reset unbinds the backend of both engines and keeps the build of each. -/
theorem resetInput_withBackend (a : Bool) :
    EqExceptBackend (resetInput a s) (resetInput a (withBackend s b x y)) := by
  simp only [resetInput, withBackend_condition]
  cases a with
  | true => rfl
  | false => cases s.condition <;> rfl

theorem storeReg_withBackend (r : Reg) (v : Word) :
    storeReg r v (withBackend s b x y) = withBackend (storeReg r v s) b x y := by
  cases r <;> rfl

/-- Only CAPS and STATUS show the build and the bound backend. -/
theorem readReg_withBackend {r : Reg} (hcaps : r ≠ .caps) (hstatus : r ≠ .status) :
    readReg r (withBackend s b x y) = readReg r s := by
  cases r with
  | caps => exact absurd rfl hcaps
  | status => exact absurd rfl hstatus
  | _ => rfl

end backend

end Sys2Proof.Machine
end

section
/-! The obligations of the backends (42_backends.md). -/

namespace Sys2Proof.Machine

/-- Settles O29: SELECT's branches, one for each value of CTRL. -/
theorem selectBindsTheWidestBuiltBackend : Obligations.SelectBindsTheWidestBuiltBackend := fun _ _ =>
  ⟨rfl, rfl, rfl, rfl⟩

/-- Settles O42: on four lanes the vector double round is DR, and each half of eight lanes is such a round. -/
theorem vectorDoubleRoundIsDR : Obligations.VectorDoubleRoundIsDR :=
  ⟨vectorDouble_ops4, vectorDouble_ops8⟩

/-- Settles O40, by the ways a step can go: a read of CAPS or STATUS may answer another word, and every other step
takes the two engines to states that agree in all but the backend and the build. -/
theorem backendIsInvisible : Obligations.BackendIsInvisible := by
  intro s b x y hs t h
  show ∃ t', step (withBackend s b x y) = .next t' ∧ _
  rcases step_next_cases h with ⟨hb, rfl⟩ | ⟨rest, hb, rfl⟩ | ⟨a, rest, hb, rfl⟩ | ⟨r, rest, hc, hb, rfl⟩ |
    ⟨r, v, rest, hc, hr, hb, rfl⟩ | ⟨v, rest, hc, hb, hrun⟩
  · exact ⟨_, step_of_idle (s := withBackend t b x y) hb, (eqExceptBackend_withBackend _ b x y).same_but_replies⟩
  · have hlose := losePower_withBackend (s.setBus rest) b x y
    exact ⟨_, (step_of_pending (s := withBackend s b x y) hb).trans (congrArg Host.Outcome.next hlose),
      (eqExceptBackend_withBackend _ b x y).same_but_replies⟩
  · exact ⟨_, step_of_pending (s := withBackend s b x y) hb, (resetInput_withBackend _ b x y a).same_but_replies⟩
  · refine ⟨_, step_readEvent (s := withBackend s b x y) hc hb, rfl, fun hother => ?_⟩
    have hcaps : r ≠ .caps := by
      rintro rfl
      exact (hother rest).1 hb
    have hstatus : r ≠ .status := by
      rintro rfl
      exact (hother rest).2 hb
    have hread := (readReg_withBackend s b x y hcaps hstatus).trans (readReg_queues r s rest s.replies).symm
    exact congrArg (fun w => s.replies ++ [w]) hread
  · have hstore := storeReg_withBackend (s.setBus rest) b x y r v
    exact ⟨_, (step_store (s := withBackend s b x y) hc hr hb).trans (congrArg Host.Outcome.next hstore),
      (eqExceptBackend_withBackend _ b x y).same_but_replies⟩
  · have hrel := runCommand_withBackend (s.setBus rest) b x y hs v
    rw [hrun] at hrel
    obtain ⟨t', ht', heq⟩ := hrel.next_left
    exact ⟨t', (step_command (s := withBackend s b x y) hc hb).trans ht', heq.same_but_replies⟩

end Sys2Proof.Machine
end

section
/-! The obligations of the control commands (43_control.md). -/

namespace Sys2Proof.Machine

/-- Settles O18: NOP's next state is its own, and only the decoder's check of the reserved field can reject its word. -/
theorem nopChangesNothing : Obligations.NopChangesNothing := fun s =>
  ⟨rfl, runCommand_of_z (i := .nop) rfl rfl s, fun _ hop hr => runCommand_of_reserved (i := .nop) hop hr s⟩

/-- Settles O19: CLRERR writes ERRCODE alone, which ERR reads; the decoder's rejection of its word comes before it. -/
theorem clrerrClearsTheErrorRecord : Obligations.ClrerrClearsTheErrorRecord := fun s =>
  ⟨rfl, runCommand_of_z (i := .clrerr) rfl rfl s, rfl,
    fun _ hop hr => runCommand_of_reserved (i := .clrerr) hop hr s⟩

end Sys2Proof.Machine
end

section
/-! The layer below the obligations of the host protocol (44_host_protocol.md): accesses that complete, and what a
construction, a seek and a read through the reference cursor do. -/

namespace Sys2Proof.Machine

/-! Accesses that complete. -/

/-- Every word written to CMD completes: a rejection is a next state too (60_exceptions.md R252). -/
theorem runCommand_completes (v : Word) (s : State) : ∃ t, runCommand v s = .next t := by
  obtain ⟨e, _, he⟩ | ⟨i, _, hi⟩ := runCommand_cases v s
  · exact ⟨_, he⟩
  · obtain ⟨t, ht, _⟩ := exec_effect i s
    exact ⟨t, hi.trans ht⟩

/-- A write completes at every register that is not read-only (20_memory.md R63). -/
theorem busWrite_completes {r : Reg} (hr : r.access ≠ .readOnly) (v : Word) (s : State) :
    ∃ t, busWrite r v s = .next t := by
  unfold busWrite
  split
  next h => exact absurd h hr
  next => exact runCommand_completes v s
  next => exact ⟨_, rfl⟩

/-! Host programs made of commands and staging writes (30_encoding.md R100). -/

/-- A list of events that begins with a command. -/
theorem perform_command {s : State} (hs : s.condition = .running) {i : Instr} (hi : i.wellFormed = true)
    (rest : List HostEvent) : perform (commandEvent i :: rest) s = andThen (exec i s) (perform rest) := by
  rw [perform_cons, commandEvent, busEvent_cmd hs, runCommand_encode hi]

/-- A list of events that is one command. -/
theorem perform_one_command {s : State} (hs : s.condition = .running) {i : Instr} (hi : i.wellFormed = true) :
    perform [commandEvent i] s = exec i s := by
  rw [perform_command hs hi]
  cases exec i s <;> rfl

/-- The staging registers as LDKEY, LDSTREAM and LDROUNDS leave them. -/
def stageSeed (k : Key) (sid : DWord) (r : Word) (s : State) : State :=
  (((s.setKey k).setStreamLo (lo32 sid)).setStreamHi (hi32 sid)).setRounds r

theorem stagedStream_stageSeed (k : Key) (sid : DWord) (r : Word) (s : State) :
    stagedStream (stageSeed k sid r s) = sid :=
  pair64_hi_lo sid

/-- SEED stages the seed and issues CONFIG. -/
theorem perform_seed {s : State} (hs : s.condition = .running) (k : Key) (sid : DWord) (r : Word) :
    perform (seed k sid r) s = exec .config (stageSeed k sid r s) := by
  rw [seed, List.append_assoc, List.append_assoc, perform_ldKey hs, perform_ldStream (by simp [hs]),
    ldRounds, List.singleton_append, perform_write (by simp [hs]) rfl]
  exact perform_one_command (i := .config) (by simp [hs]) rfl

/-- The engine after a GENERATE at counter b: OUT is the buffer at b and C is b + 4 (41_keystream.md R165). -/
def generatedAt (b : DWord) (s : State) : State :=
  (s.setOut (buf s.activeKey s.activeStream s.activeRounds.toNat b)).setCounter (b + 4)

/-- SEEKBLK b stages b and generates there, whatever C was (44_host_protocol.md R235). -/
theorem perform_seekBlk {s : State} (hc : s.configured = true) (hs : s.condition = .running) (b : DWord) :
    perform (seekBlk b) s = .next (generatedAt b ((s.setCtrinLo (lo32 b)).setCtrinHi (hi32 b))) := by
  have hstaged : stagedCounter ((s.setCtrinLo (lo32 b)).setCtrinHi (hi32 b)) = b := pair64_hi_lo b
  rw [seekBlk, ldCtr, List.cons_append, perform_write hs rfl, List.cons_append, perform_write (by simp [hs]) rfl,
    List.singleton_append, storeReg, storeReg, perform_command (by simp [hs]) rfl, exec_setctr (by simp [hc]),
    andThen_next, perform_cons, busEvent_generate (by simp [hc]) (by simp [hs]), andThen_next, hstaged]
  rfl

/-! Construction (44_host_protocol.md R231). -/

theorem CmdError.code_ne_zero (e : CmdError) : e.code ≠ 0 := by
  cases e <;> decide

/-- CONFIG passes its checks exactly with a legal round parameter and a forced backend that is built
(41_keystream.md R163). -/
theorem configCheck_accepts_iff (s : State) :
    (∃ b, configCheck s = .ok b) ↔
      (s.rounds = 4 ∨ s.rounds = 6 ∨ s.rounds = 10) ∧ select s.backendForce s.hasV128 s.hasV256 ≠ none := by
  constructor
  · rintro ⟨b, hb⟩
    obtain ⟨hr, hsel⟩ := configCheck_ok hb
    exact ⟨hr, by simp [hsel]⟩
  · rintro ⟨hr, hsel⟩
    obtain ⟨b, hb⟩ := Option.ne_none_iff_exists'.1 hsel
    exact ⟨b, by rw [configCheck_of_supported hr, hb]; rfl⟩

/-- An accepted CONFIG latches the staged seed, and the check that follows it passes when no earlier error stands. -/
theorem checkConstructed_config_of_ok {s : State} (hs : s.condition = .running) {b : Backend}
    (h : configCheck s = .ok b) :
    ∃ t, andThen (exec .config s) checkConstructed = .next (if s.errCode = 0 then some Cursor.fresh else none, t) ∧
      t.activeKey = s.key ∧ t.activeStream = stagedStream s ∧ t.activeRounds = s.rounds ∧ t.counter = 0 ∧
      t.out = Buffer.zero ∧ t.configured = true ∧ t.errCode = s.errCode := by
  rw [exec_config_of_ok h, andThen_next, checkConstructed_running (by simp [hs])]
  simp only [State.setOut_configured, State.setCounter_configured, State.setActive_configured, and_true]
  exact ⟨_, rfl, rfl, rfl, rfl, rfl, rfl, rfl, rfl⟩

/-- A rejected CONFIG leaves an error, so the check that follows it fails. -/
theorem checkConstructed_config_of_error {s : State} (hs : s.condition = .running) {e : CmdError}
    (h : configCheck s = .error e) :
    ∃ t, andThen (exec .config s) checkConstructed = .next (none, t) := by
  have herr : ¬((reject e s).errCode = 0 ∧ (reject e s).configured = true) :=
    fun ⟨hzero, _⟩ => e.code_ne_zero hzero
  rw [exec_config_of_error h, andThen_next, checkConstructed_running (by simp [reject, hs]), if_neg herr]
  exact ⟨_, rfl⟩

/-! The keystream as the reference cursor reads it (44_host_protocol.md R233). -/

/-- A block that passes 2^64 in the counter stands where the keystream's period puts it (41_keystream.md R160). -/
theorem keystream_counter_add (k : Key) (sid : DWord) (r : Nat) (c : DWord) (m i : Nat) :
    keystream k sid r (16 * (c + BitVec.ofNat 64 m).toNat + i) = keystream k sid r (16 * c.toNat + (16 * m + i)) := by
  have hmod : (16 * (c + BitVec.ofNat 64 m).toNat + i) % 16 = (16 * c.toNat + (16 * m + i)) % 16 := by omega
  have hdiv (x : Nat) : (16 * x + i) / 16 = x + i / 16 := by omega
  have hblock : BitVec.ofNat 64 ((16 * (c + BitVec.ofNat 64 m).toNat + i) / 16) =
      BitVec.ofNat 64 ((16 * c.toNat + (16 * m + i)) / 16) := by
    rw [hdiv, show 16 * c.toNat + (16 * m + i) = 16 * (c.toNat + m) + i by omega, hdiv]
    simp only [BitVec.ofNat_add, BitVec.ofNat_toNat, BitVec.setWidth_eq]
  simp only [keystream, hblock, hmod]

/-- `Reads f k s`: cursor k on engine s is to read the words f 0, f 1, ... Those still in OUT stand from idx on, and
the keystream from block C on continues them. Of the cursor only idx matters. -/
structure Reads (f : Nat → Word) (k : Cursor) (s : State) : Prop where
  configured : s.configured = true
  running : s.condition = .running
  idx_le : k.idx ≤ 64
  buffered : ∀ i (h : k.idx + i < 64), Buffer.word s.out ⟨k.idx + i, h⟩ = f i
  refilled : ∀ i, keystream s.activeKey s.activeStream s.activeRounds.toNat (16 * s.counter.toNat + i) =
    f (64 - k.idx + i)

/-- With OUT the buffer at block b and C four blocks on, the cursor reads the keystream from word 16 b + idx on. -/
theorem Reads.of_buffer {s : State} {k : Cursor} {b : DWord} (hc : s.configured = true) (hs : s.condition = .running)
    (hidx : k.idx ≤ 64) (hcounter : s.counter = b + 4)
    (hout : s.out = buf s.activeKey s.activeStream s.activeRounds.toNat b) :
    Reads (fun i => keystream s.activeKey s.activeStream s.activeRounds.toNat (16 * b.toNat + k.idx + i)) k s where
  configured := hc
  running := hs
  idx_le := hidx
  buffered i h := by
    have hword := word_buf_eq_keystream s.activeKey s.activeStream s.activeRounds.toNat b.toNat ⟨k.idx + i, h⟩
    rw [BitVec.ofNat_toNat, BitVec.setWidth_eq] at hword
    rw [hout, hword, Nat.add_assoc]
  refilled i := by
    rw [hcounter, show (4 : DWord) = BitVec.ofNat 64 4 from rfl, keystream_counter_add]
    congr 1
    omega

/-- After a GENERATE at b the cursor reads the keystream from word 16 b + idx on. -/
theorem Reads.of_generatedAt {s : State} {k : Cursor} (hc : s.configured = true) (hs : s.condition = .running)
    (hidx : k.idx ≤ 64) (b : DWord) :
    Reads (fun i => keystream s.activeKey s.activeStream s.activeRounds.toNat (16 * b.toNat + k.idx + i)) k
      (generatedAt b s) :=
  Reads.of_buffer (s := generatedAt b s) hc hs hidx rfl rfl

/-- A cursor with its buffer exhausted reads the keystream from block C on. -/
theorem Reads.of_exhausted {s : State} {k : Cursor} (hc : s.configured = true) (hs : s.condition = .running)
    (hidx : k.idx = 64) :
    Reads (fun i => keystream s.activeKey s.activeStream s.activeRounds.toNat (16 * s.counter.toNat + i)) k s where
  configured := hc
  running := hs
  idx_le := hidx.le
  buffered i h := by omega
  refilled i := by simp [hidx]

section reads
variable {f : Nat → Word} {k : Cursor} {s : State}

/-- Reading a register of the engine reads nothing of the stream. -/
theorem Reads.reply (h : Reads f k s) (v : Word) : Reads f k (s.reply v) :=
  { h with }

/-- Taking the first of the words still in OUT. -/
theorem Reads.advance (h : Reads f k s) (hidx : k.idx < 64) :
    Reads (fun i => f (i + 1)) { k with idx := k.idx + 1 } s where
  configured := h.configured
  running := h.running
  idx_le := hidx
  buffered i hi := by
    have hnext : k.idx + 1 + i = k.idx + (i + 1) := by omega
    simp only [hnext] at hi ⊢
    exact h.buffered (i + 1) hi
  refilled i := by
    have hnext : 64 - k.idx + i = 64 - (k.idx + 1) + i + 1 := by omega
    rw [h.refilled, hnext]

/-- GENERATE on an exhausted buffer brings the next 64 words into OUT. -/
theorem Reads.generated (h : Reads f k s) (hidx : k.idx = 64) (base : DWord) :
    Reads f ⟨true, base, 0⟩ (generatedAt s.counter s) := by
  have hf : f = fun i => keystream s.activeKey s.activeStream s.activeRounds.toNat (16 * s.counter.toNat + i) := by
    funext i
    rw [h.refilled, hidx, Nat.sub_self, Nat.zero_add]
  rw [hf]
  exact Reads.of_generatedAt (k := ⟨true, base, 0⟩) h.configured h.running (Nat.zero_le 64) s.counter

/-- The refill leaves a word to read in OUT and the words to come as they were. -/
theorem Reads.refill (h : Reads f k s) :
    ∃ k' s', refill k s = .next (k', s') ∧ k'.idx < 64 ∧ Reads f k' s' := by
  by_cases hidx : k.idx < 64
  · exact ⟨k, s, if_pos hidx, hidx, h⟩
  · have hlo := h.reply (readReg .ctrLo s)
    have hhi := hlo.reply (readReg .ctrHi (s.reply (readReg .ctrLo s)))
    refine ⟨⟨true, pair64 (hi32 s.counter) (lo32 s.counter), 0⟩, _, ?_, Nat.zero_lt_succ 63,
      hhi.generated (Nat.le_antisymm h.idx_le (Nat.le_of_not_lt hidx)) _⟩
    rw [Machine.refill, if_neg hidx, hostRead_running h.running, andThen_next, hostRead_running hlo.running,
      andThen_next, busEvent_generate hhi.configured hhi.running, andThen_next]
    rfl

/-- NextWord returns the first word to come and leaves the others (R233). -/
theorem Reads.nextWord (h : Reads f k s) :
    ∃ k' s', nextWord k s = .next (f 0, k', s') ∧ Reads (fun i => f (i + 1)) k' s' := by
  obtain ⟨k', s', hrefill, hidx, h'⟩ := h.refill
  refine ⟨_, _, ?_, (h'.advance hidx).reply (f 0)⟩
  have hword : readReg (.out ⟨k'.idx, hidx⟩) s' = f 0 := h'.buffered 0 hidx
  rw [Machine.nextWord, hrefill, andThen_next, dif_pos hidx, hostRead_running h'.running, andThen_next, hword]

/-- n NextWords return the first n words to come. -/
theorem Reads.nextWords (h : Reads f k s) (n : Nat) :
    ∃ p, nextWords n k s = .next ((List.range n).map f, p) := by
  induction n generalizing f k s with
  | zero => exact ⟨(k, s), rfl⟩
  | succ n ih =>
    obtain ⟨k', s', hword, h'⟩ := h.nextWord
    obtain ⟨p, hwords⟩ := ih h'
    refine ⟨p, ?_⟩
    rw [Machine.nextWords, hword, andThen_next, hwords, andThen_next, List.range_succ_eq_map, List.map_cons,
      List.map_map]
    rfl

end reads

/-! Bytes (20_memory.md R69). -/

/-- Byte i of a word's bytes. -/
theorem wordBytes_getElem? (v : Word) {i : Nat} (hi : i < 4) :
    (wordBytes v)[i]? = some (v.extractLsb' (8 * i) 8) := by
  interval_cases i <;> rfl

/-- Byte i of a list of words is byte i mod 4 of word i div 4. -/
theorem flatMap_wordBytes_getElem? (ws : List Word) (i : Nat) :
    (ws.flatMap wordBytes)[i]? = (ws[i / 4]?).map fun v => v.extractLsb' (8 * (i % 4)) 8 := by
  induction ws generalizing i with
  | nil => rfl
  | cons v ws ih =>
    rw [List.flatMap_cons]
    by_cases hi : i < 4
    · rw [List.getElem?_append_left hi, wordBytes_getElem? v hi, Nat.div_eq_of_lt hi, Nat.mod_eq_of_lt hi]
      rfl
    · have hdiv : i / 4 = (i - 4) / 4 + 1 := by omega
      have hmod : i % 4 = (i - 4) % 4 := by omega
      rw [List.getElem?_append_right (Nat.le_of_not_lt hi), hdiv, hmod, List.getElem?_cons_succ]
      exact ih (i - 4)

theorem length_flatMap_wordBytes (ws : List Word) : (ws.flatMap wordBytes).length = 4 * ws.length := by
  induction ws with
  | nil => rfl
  | cons v ws ih =>
    rw [List.flatMap_cons, List.length_append, ih, List.length_cons, Nat.mul_succ, Nat.add_comm]
    rfl

/-- A Fill returns n bytes, those of the words to come, each word's in order (44_host_protocol.md R234). -/
theorem Reads.fillBytes {f : Nat → Word} {k : Cursor} {s : State} (h : Reads f k s) (n : Nat) :
    ∃ q, fillBytes n k s = .next q ∧ q.1.length = n ∧
      ∀ i, i < n → q.1[i]? = some ((f (i / 4)).extractLsb' (8 * (i % 4)) 8) := by
  obtain ⟨p, hp⟩ := h.nextWords ((n + 3) / 4)
  refine ⟨_, by rw [Machine.fillBytes, hp, andThen_next], ?_, fun i hi => ?_⟩
  · simp only [List.length_take, length_flatMap_wordBytes, List.length_map, List.length_range]
    omega
  · have hword : i / 4 < (n + 3) / 4 := by omega
    rw [List.getElem?_take_of_lt hi, flatMap_wordBytes_getElem?, List.getElem?_map, List.getElem?_range hword]
    rfl

/-! Seeking (44_host_protocol.md R235). -/

/-- After Seek(b, o) the cursor reads the keystream from word 16 b + o on, be it a hit or a miss. -/
theorem seek_reads {s : State} {k : Cursor} {b : DWord} {o : Nat} (hc : s.configured = true)
    (hs : s.condition = .running) (ho : o < 16)
    (hk : k.valid = true → s.counter = k.base + 4 ∧
      s.out = buf s.activeKey s.activeStream s.activeRounds.toNat k.base) :
    ∃ k' s', seek b o k s = .next (k', s') ∧
      Reads (fun i => keystream s.activeKey s.activeStream s.activeRounds.toNat (16 * b.toNat + o + i)) k' s' := by
  have hidx : o ≤ 64 := by omega
  rw [seek, if_neg (Nat.not_le_of_lt ho)]
  by_cases hit : k.valid = true ∧ b = k.base
  · obtain ⟨hvalid, rfl⟩ := hit
    obtain ⟨hcounter, hout⟩ := hk hvalid
    exact ⟨_, _, if_pos ⟨hvalid, rfl⟩, Reads.of_buffer (k := { k with idx := o }) hc hs hidx hcounter hout⟩
  · rw [if_neg hit, perform_seekBlk hc hs]
    exact ⟨_, _, rfl, Reads.of_generatedAt (s := (s.setCtrinLo (lo32 b)).setCtrinHi (hi32 b))
      (k := ⟨true, b, o⟩) hc hs hidx b⟩

end Sys2Proof.Machine
end

section
/-! The obligations of the host protocol (44_host_protocol.md). -/

namespace Sys2Proof.Machine

/-- Settles O12: an access that completes reached a register it may use, and such an access is a read, a store or a
command word, which all complete. -/
theorem accessCompletesExactlyWhenLegal : Obligations.AccessCompletesExactlyWhenLegal := by
  intro s a rest hs hb
  constructor
  · rintro ⟨t, ht⟩
    rw [step_of_pending hb] at ht
    obtain ⟨_, hm, hw, r, ho, ⟨hop, _⟩ | ⟨_, _, hr, _⟩ | ⟨_, _, hr, _⟩⟩ := busAccess_next_cases ht
    · exact ⟨hm, hw, r, ho, .inl hop⟩
    · exact ⟨hm, hw, r, ho, .inr (by simp [hr])⟩
    · exact ⟨hm, hw, r, ho, .inr (by simp [hr])⟩
  · obtain ⟨m, wd, o, op⟩ := a
    rintro ⟨rfl, rfl, r, rfl, hop⟩
    cases op with
    | read => exact ⟨_, step_readEvent hs hb⟩
    | write v =>
      obtain ⟨t, ht⟩ := busWrite_completes (hop.resolve_left BusOp.noConfusion) v (s.setBus rest)
      exact ⟨t, (step_writeEvent hs hb).trans ht⟩

/-- Settles O49: a seek leaves a cursor that reads from word 16 b + o on, and every NextWord takes the next word. -/
theorem seekIsConsistentWithReading : Obligations.SeekIsConsistentWithReading := by
  intro s k b o n hc hs ho hk
  obtain ⟨k', s', hseek, hreads⟩ := seek_reads (b := b) hc hs ho hk
  obtain ⟨p, hp⟩ := hreads.nextWords (n + 1)
  exact ⟨_, _, hseek, hp, rfl⟩

/-- Settles O50: either kind of cursor reads the keystream from its position on, and Fill cuts the words into bytes. -/
theorem fillReturnsKeystreamBytes : Obligations.FillReturnsKeystreamBytes := by
  intro s k n hc hs hfresh hvalid
  cases hv : k.valid with
  | true =>
    obtain ⟨hidx, hcounter, hout⟩ := hvalid hv
    exact (Reads.of_buffer hc hs hidx hcounter hout).fillBytes n
  | false => exact (Reads.of_exhausted hc hs (hfresh hv)).fillBytes n

/-- Settles O60, by CONFIG's checks on the staged seed: accepted, the engine holds the seed and an earlier error alone
can fail the check; rejected, there is an error. -/
theorem constructionIsSeedThenCheck : Obligations.ConstructionIsSeedThenCheck := by
  constructor
  · intro s k sid r hs
    have haccepts := configCheck_accepts_iff (stageSeed k sid r s)
    rw [construct, perform_seed hs]
    cases hcheck : configCheck (stageSeed k sid r s) with
    | error e =>
      obtain ⟨t, ht⟩ := checkConstructed_config_of_error (s := stageSeed k sid r s) hs hcheck
      simp only [hcheck, reduceCtorEq, exists_false, false_iff] at haccepts
      exact ⟨none, t, ht, .inl rfl, iff_of_false nofun fun h => haccepts h.2, nofun⟩
    | ok b =>
      obtain ⟨t, ht, hkey, hsid, hr, hcounter, hout, hconf, herr⟩ :=
        checkConstructed_config_of_ok (s := stageSeed k sid r s) hs hcheck
      have hlegal := haccepts.1 ⟨b, hcheck⟩
      refine ⟨_, t, ht, ?_⟩
      by_cases he : s.errCode = 0
      · rw [if_pos (show (stageSeed k sid r s).errCode = 0 from he)]
        exact ⟨.inr rfl, iff_of_true rfl ⟨he, hlegal⟩, fun _ =>
          ⟨hkey, hsid.trans (stagedStream_stageSeed k sid r s), hr, hcounter, hout, hconf, herr.trans he⟩⟩
      · rw [if_neg (show (stageSeed k sid r s).errCode ≠ 0 from he)]
        exact ⟨.inl rfl, iff_of_false nofun fun h => he h.1, nofun⟩
  · intro x y
    obtain ⟨b, hcheck⟩ := (configCheck_accepts_iff (State.resetOf x y)).2
      ⟨.inr (.inr rfl), Option.ne_none_iff_exists'.2 (select_of_unforced (f := 0) (Nat.zero_le 1) x y)⟩
    obtain ⟨t, ht, hkey, hsid, hr, hcounter, _, hconf, _⟩ :=
      checkConstructed_config_of_ok (s := State.resetOf x y) rfl hcheck
    rw [constructDefault, perform_one_command (s := State.resetOf x y) rfl rfl]
    exact ⟨t, ht, hkey, hsid.trans (by decide : pair64 0 0 = 0), hr, hcounter, hconf⟩

end Sys2Proof.Machine
end

section
/-! The layer below the obligations of rejections (60_exceptions.md R250 to R253): what every command answers, with
the cause that decides it. -/

namespace Sys2Proof.Machine

/-- The check of CONFIG that fails is its first cause, in the statements' words. -/
theorem rejectionCode_config_of_error {s : State} {e : CmdError} (h : configCheck s = .error e) :
    rejectionCode .config s = some e.code := by
  by_cases h0 : s.rounds = 0
  · rw [configCheck_of_zero h0] at h
    cases h
    exact if_pos h0
  by_cases hr : s.rounds = 4 ∨ s.rounds = 6 ∨ s.rounds = 10
  · rw [configCheck_of_supported hr] at h
    cases hsel : select s.backendForce s.hasV128 s.hasV256 with
    | none =>
      rw [hsel] at h
      cases h
      simp only [rejectionCode, h0, hsel]
      rcases hr with hr | hr | hr <;> simp [hr, CmdError.code]
    | some b =>
      rw [hsel] at h
      cases h
  · rw [configCheck_of_unsupported h0 hr] at h
    cases h
    exact (if_neg h0).trans (if_pos (by simpa only [not_or] using hr))

/-- `Verdict i s`: the two ways in which command i can end in s (R252). Rejected for a cause, it changes ERRCODE
alone; accepted, it keeps ERRCODE, which CLRERR clears. -/
inductive Verdict (i : Instr) (s : State) : Prop
  | rejected (e : CmdError) (hcode : rejectionCode i s = some e.code) (hexec : exec i s = .next (reject e s))
  | accepted (t : State) (hcode : rejectionCode i s = none) (hexec : exec i s = .next t)
      (herr : t.errCode = if i = .clrerr then 0 else s.errCode)

/-- A command that needs an active configuration is rejected exactly without one. -/
theorem Verdict.of_ifConfigured {i : Instr} {s : State} {f : State → State}
    (hexec : exec i s = .next (ifConfigured s f))
    (hcode : rejectionCode i s = if s.configured then none else some 0x06)
    (herr : (f s).errCode = if i = .clrerr then 0 else s.errCode) : Verdict i s := by
  obtain ⟨hs, hf⟩ | ⟨hs, hf⟩ := ifConfigured_cases s f <;> rw [hf] at hexec
  · exact .accepted _ (hcode.trans (if_pos hs)) hexec herr
  · exact .rejected .notConfigured (hcode.trans (if_neg (Bool.eq_false_iff.1 hs))) hexec

/-- A command with a count is rejected exactly when it is 0. -/
theorem Verdict.of_ifCounted {i : Instr} {s : State} {n : Nat} {f : State → State}
    (hexec : exec i s = .next (ifCounted n s f))
    (hcode : rejectionCode i s = if n = 0 then some 0x08 else none)
    (herr : (f s).errCode = if i = .clrerr then 0 else s.errCode) : Verdict i s := by
  obtain ⟨hn, hf⟩ | ⟨hn, hf⟩ := ifCounted_cases n s f <;> rw [hf] at hexec
  · exact .accepted _ (hcode.trans (if_neg hn)) hexec herr
  · exact .rejected .countZero (hcode.trans (if_pos hn)) hexec

/-- QROUND is rejected exactly when two of its indices are equal (R132). -/
theorem verdict_qround (a b c d : Fin 16) (s : State) : Verdict (.qround a b c d) s := by
  have hdistinct := aliased_eq_false_iff a b c d
  cases halias : aliased a b c d with
  | false => exact .accepted _ (if_neg (by simpa only [not_or] using hdistinct.1 halias)) (exec_qround halias s) rfl
  | true =>
    rw [halias] at hdistinct
    refine .rejected .qrAlias (if_pos (by_contra fun h => ?_)) (exec_qround_aliased halias s)
    exact Bool.noConfusion (hdistinct.2 (by simpa only [not_or] using h))

/-- Every command in every state is rejected for its first cause or accepted (R252, R253). -/
theorem exec_verdict (i : Instr) (s : State) : Verdict i s := by
  cases i with
  | nop | clrerr | colround | diaground | dround => exact .accepted _ rfl rfl rfl
  | config =>
    cases hcheck : configCheck s with
    | error e => exact .rejected e (rejectionCode_config_of_error hcheck) (exec_config_of_error hcheck)
    | ok b => exact .accepted _ (rejectionCode_config_of_ok hcheck) (exec_config_of_ok hcheck) rfl
  | generate | regenerate | setctr | loadinit => exact .of_ifConfigured rfl rfl rfl
  | qround a b c d => exact verdict_qround a b c d s
  | perm n | blockfn n => exact .of_ifCounted rfl rfl rfl

end Sys2Proof.Machine
end

section
/-! The obligations of rejections and of the idle engine (60_exceptions.md). -/

namespace Sys2Proof.Machine

/-- Settles O33: a command ends in one of its two verdicts, and a word that does not decode is rejected. -/
theorem rejectedCommandsOnlySetErrcode : Obligations.RejectedCommandsOnlySetErrcode := by
  refine ⟨fun i s => ?_, fun v s e he => runCommand_of_error he s⟩
  cases exec_verdict i s with
  | rejected e hcode hexec =>
    refine ⟨_, hexec, fun c hc => ?_, fun hnone => by simp [hcode] at hnone⟩
    obtain rfl : e.code = c := Option.some.inj (hcode.symm.trans hc)
    rfl
  | accepted t hcode hexec herr =>
    exact ⟨t, hexec, fun c hc => by simp [hcode] at hc, fun _ => herr⟩

/-- Settles O7: with an empty queue a step is idle. -/
theorem stepWithoutAccessHoldsState : Obligations.StepWithoutAccessHoldsState :=
  fun _ _ hb => step_of_idle hb

end Sys2Proof.Machine
end

section
/-! The layer below the obligations of reset and hazards (70_reset_and_hazards.md): what a reset forgets, what the
reset state reads and accepts, and what a staging write leaves of the commands after it. -/

namespace Sys2Proof.Machine

/-! Accesses outside the spec. -/

/-- An access while reset is asserted is refused (R280, log 8). -/
theorem step_access_of_resetAsserted {s : State} {a : HostAccess} {rest : List HostEvent}
    (hs : s.condition = .resetAsserted) (hb : s.bus = .access a :: rest) : step s = .refused .accessDuringReset := by
  rw [step_of_pending hb]
  simp only [busEvent, busAccess, State.setBus_condition, hs]

/-- An access after a loss of power is refused (60_exceptions.md R264, log 9). -/
theorem step_access_of_powerLost {s : State} {a : HostAccess} {rest : List HostEvent}
    (hs : s.condition = .powerLost) (hb : s.bus = .access a :: rest) : step s = .refused .accessAfterPowerLoss := by
  rw [step_of_pending hb]
  simp only [busEvent, busAccess, State.setBus_condition, hs]

/-- An access by a second master is refused (20_memory.md R72, log 7). -/
theorem step_access_of_second_master {s : State} {a : HostAccess} {rest : List HostEvent}
    (hs : s.condition = .running) (ha : a.master = .other) (hb : s.bus = .access a :: rest) :
    step s = .refused .secondMaster := by
  rw [step_of_pending hb]
  simp only [busEvent, busAccess, State.setBus_condition, hs, ha]

/-! What a reset forgets (R280). -/

/-- Deasserting reset after its assertion sets the reset values. -/
theorem resetInput_false_of_asserted {s : State} (hs : s.condition = .resetAsserted) :
    resetInput false s = s.resetRegs := by
  simp only [resetInput, hs, Bool.false_eq_true, if_false]

/-- A whole reset sets the reset values, whatever the condition was. -/
theorem perform_reset (s : State) : perform [.resetLine true, .resetLine false] s = .next s.resetRegs := rfl

/-- A command leaves no trace in the reset values: it writes neither the build's bits nor the host's two lists. -/
theorem ExecEffect.resetRegs_eq {i : Instr} {s t : State} (h : ExecEffect s i t) : t.resetRegs = s.resetRegs := by
  cases h <;> rfl

/-- A loss of power leaves no trace in the reset values. -/
theorem resetRegs_losePower (s : State) : (losePower s).resetRegs = s.resetRegs := by
  obtain ⟨_, he⟩ | ⟨_, he⟩ := losePower_cases s
  · rw [he]
  · rw [he]
    rfl

/-- A loss of power while reset is asserted changes nothing (log 8). -/
theorem losePower_of_resetAsserted {s : State} (hs : s.condition = .resetAsserted) : losePower s = s := by
  simp only [losePower, hs]

/-! The reset state (R281, R282, R285). -/

@[simp] theorem Row.get_fill (v : Word) (i : Fin 4) : (Row.fill v).get i = v := by
  fin_cases i <;> rfl

@[simp] theorem Mat.get_zero (i : Fin 4) : Quad.get Mat.zero i = Row.fill 0 := by
  fin_cases i <;> rfl

@[simp] theorem Buffer.get_zero (i : Fin 4) : Quad.get Buffer.zero i = Mat.zero := by
  fin_cases i <;> rfl

@[simp] theorem Mat.word_zero (i : Fin 16) : Mat.word Mat.zero i = 0 := by
  simp [Mat.word]

@[simp] theorem Buffer.word_zero (i : Fin 64) : Buffer.word Buffer.zero i = 0 := by
  simp [Buffer.word]

@[simp] theorem Key.word_zero (i : Fin 8) : Key.zero.word i = 0 := by
  simp [Key.word, Key.zero]

/-- The reset values pass CONFIG's checks on every build. -/
theorem configCheck_resetOf (x y : Bool) : ∃ b, configCheck (State.resetOf x y) = .ok b := by
  obtain ⟨b, hb⟩ := select_of_unforced (f := 0) (Nat.zero_le 1) x y
  exact (configCheck_accepts_iff _).2 ⟨.inr (.inr rfl), Option.ne_none_iff_exists'.2 ⟨b, hb⟩⟩

/-- A command that no check rejects leaves a clear ERRCODE clear (60_exceptions.md R252). -/
theorem exec_keeps_errCode_zero {i : Instr} {s : State} (hs : s.errCode = 0) (hi : rejectionCode i s = none) :
    ∃ t, exec i s = .next t ∧ t.errCode = 0 := by
  cases exec_verdict i s with
  | rejected e hcode _ => cases hi.symm.trans hcode
  | accepted t _ hexec herr => exact ⟨t, hexec, by rw [herr, hs, ite_self]⟩

/-- A command rejected with NOT_CONFIGURED changes ERRCODE alone. -/
theorem exec_of_notConfigured {i : Instr} {s : State} (hi : rejectionCode i s = some 0x06) :
    exec i s = .next { s with errCode := 0x06 } := by
  obtain ⟨t, ht, hrejected, _⟩ := rejectedCommandsOnlySetErrcode.1 i s
  rw [ht, hrejected _ hi]

/-- CONFIG right after reset makes the default seed the active configuration. -/
theorem exec_config_resetOf (x y : Bool) : ∃ t, exec .config (State.resetOf x y) = .next t ∧ t.configured = true ∧
    t.activeKey = Key.zero ∧ t.activeStream = 0 ∧ t.activeRounds = 10 ∧ t.counter = 0 := by
  obtain ⟨_, hcheck⟩ := configCheck_resetOf x y
  exact ⟨_, exec_config_of_ok hcheck, rfl, rfl, (by decide : pair64 0 0 = 0), rfl, rfl⟩

/-- GENERATE on a configured engine fills OUT with the buffer of 41_keystream.md R161. -/
theorem exec_generate_out {s : State} (hs : s.configured = true) :
    ∃ u, exec .generate s = .next u ∧
      u.out = buf s.activeKey s.activeStream s.activeRounds.toNat s.counter :=
  ⟨_, exec_generate hs, by rw [State.setCounter_out, fillOut_eq_setOut_buf, State.setOut_out]⟩

/-- The first two blocks of the default seed begin with the source's words (R285). -/
theorem default_seed_words :
    Buffer.word (buf Key.zero 0 10 0) 0 = 0xade0b876 ∧ Buffer.word (buf Key.zero 0 10 0) 16 = 0xbee7079f := by
  decide +kernel

/-! Staging writes (R286, R288, R289). -/

theorem fillOut_storeReg (r : Reg) (v : Word) (s : State) : fillOut (storeReg r v s) = storeReg r v (fillOut s) := by
  cases r <;> rfl

theorem setCounter_storeReg (r : Reg) (v : Word) (s : State) (c : DWord) :
    (storeReg r v s).setCounter c = storeReg r v (s.setCounter c) := by
  cases r <;> rfl

theorem reject_storeReg (e : CmdError) (r : Reg) (v : Word) (s : State) :
    reject e (storeReg r v s) = storeReg r v (reject e s) := by
  cases r <;> rfl

/-- GENERATE reads and writes nothing that a store writes, so the two commute. -/
theorem exec_generate_storeReg {s u : State} (h : exec .generate s = .next u) (r : Reg) (v : Word) :
    exec .generate (storeReg r v s) = .next (storeReg r v u) := by
  have hconf := storeReg_configured r v s
  obtain ⟨hs, he⟩ | ⟨hs, he⟩ := ifConfigured_cases s fun t => (fillOut t).setCounter (t.counter + 4)
  · cases (exec_generate hs).symm.trans h
    rw [exec_generate (hconf.trans hs), fillOut_storeReg, setCounter_storeReg, storeReg_counter]
  · cases (congrArg Host.Outcome.next he).symm.trans h
    exact congrArg Host.Outcome.next
      ((ifConfigured_of_unconfigured (hconf.trans hs) _).trans (reject_storeReg .notConfigured r v s))

/-- No command changes the condition of reset and power. -/
theorem ExecEffect.condition_eq {i : Instr} {s t : State} (h : ExecEffect s i t) : t.condition = s.condition := by
  cases h <;> rfl

section writes
variable {s : State} (hs : s.condition = .running) {q r : Reg} (hq : q.access = .readWrite)
  (hr : r.access = .readWrite) (v w : Word)
include hs hq hr

/-- Two writes in a row store one word after the other. -/
theorem perform_two_writes :
    perform [writeEvent q v, writeEvent r w] s = .next (storeReg r w (storeReg q v s)) := by
  rw [perform_write hs hq, perform_write (by simp [hs]) hr, perform_nil]

/-- A command between two writes sees the first word stored and not the second. -/
theorem perform_command_between_writes {i : Instr} (hi : i.wellFormed = true) {t : State}
    (ht : exec i (storeReg q v s) = .next t) :
    perform [writeEvent q v, commandEvent i, writeEvent r w] s = .next (storeReg r w t) := by
  have hstored : (storeReg q v s).condition = .running := by simp [hs]
  have hrun : t.condition = .running := (effect_of_exec ht).condition_eq.trans hstored
  rw [perform_write hs hq, perform_command hstored hi, ht, andThen_next, perform_write hrun hr, perform_nil]

end writes

end Sys2Proof.Machine
end

section
/-! The obligations of reset and hazards (70_reset_and_hazards.md). -/

namespace Sys2Proof.Machine

/-- Settles O52: the write is a store, which GENERATE neither reads nor undoes. -/
theorem stagedWritesDoNotReachTheKeystream : Obligations.StagedWritesDoNotReachTheKeystream := by
  intro s r v hr hs
  have haccess : r.access = .readWrite := by
    obtain rfl | rfl | rfl | rfl | rfl | rfl | ⟨i, rfl⟩ := hr <;> rfl
  obtain ⟨u, hu, _⟩ := exec_effect .generate s
  exact ⟨storeReg r v s, u, storeReg r v u, busEvent_writeEvent hs haccess v, readReg_storeReg_same haccess v s,
    storeReg_counter r v s, storeReg_out r v s, hu, exec_generate_storeReg hu r v, storeReg_out r v u,
    storeReg_counter r v u⟩

/-- Settles O53: stores to the two halves commute, and a command between them latches what is staged by then. -/
theorem stagedHalvesInEitherOrder : Obligations.StagedHalvesInEitherOrder := by
  intro s lo hi hs
  refine ⟨?_, ?_, fun hc => ?_, fun hc => ?_, fun b hb => ?_, fun b hb => ?_⟩
  · rw [perform_two_writes hs rfl rfl, perform_two_writes hs rfl rfl]
    rfl
  · rw [perform_two_writes hs rfl rfl, perform_two_writes hs rfl rfl]
    rfl
  · exact ⟨_, perform_command_between_writes hs rfl rfl lo hi rfl (exec_setctr hc), rfl, rfl, rfl⟩
  · exact ⟨_, perform_command_between_writes hs rfl rfl hi lo rfl (exec_setctr hc), rfl, rfl, rfl⟩
  · exact ⟨_, perform_command_between_writes hs rfl rfl lo hi rfl (exec_config_of_ok hb), rfl, rfl, rfl⟩
  · exact ⟨_, perform_command_between_writes hs rfl rfl hi lo rfl (exec_config_of_ok hb), rfl, rfl, rfl⟩

/-- Settles O55: the reset values depend on the build and the host's lists alone, which neither a command nor a loss of
power writes. -/
theorem resetRestoresEveryState : Obligations.ResetRestoresEveryState := by
  refine ⟨fun s rest hs hb => ?_, fun s rest hb => step_of_pending hb,
    fun s a rest hs hb => step_access_of_resetAsserted hs hb, fun s t i h => ?_, fun s hs => ?_, fun s => ?_⟩
  · exact (step_of_pending hb).trans
      (congrArg Host.Outcome.next (resetInput_false_of_asserted (s := s.setBus rest) hs))
  · rw [perform_reset, perform_reset, (effect_of_exec h).resetRegs_eq]
  · rw [perform_cons, busEvent, losePower_of_resetAsserted hs, andThen_next]
  · rw [perform_cons, busEvent, andThen_next, perform_reset, perform_reset, resetRegs_losePower]

/-- Settles O13, one clause for each refusal. -/
theorem accessesOutsideTheSpecAreRefused : Obligations.AccessesOutsideTheSpecAreRefused := fun _ _ _ hb =>
  ⟨fun hs => step_access_of_resetAsserted hs hb, fun hs => step_access_of_powerLost hs hb,
    fun hs ha => step_access_of_second_master hs ha hb⟩

/-- Settles O54: the composed registers from their fields, and the zero arrays word by word. -/
theorem resetValuesOfEveryState : Obligations.ResetValuesOfEveryState := fun x y =>
  ⟨rfl, capsWord_toNat (State.resetOf x y), rfl, rfl, rfl, Key.word_zero, rfl, rfl, rfl, rfl, rfl,
    (by decide : hi32 0 = 0), rfl, Mat.word_zero, Buffer.word_zero, Key.word_zero, rfl, rfl, rfl, rfl⟩

/-- Settles O56: of the checks only the need of an active configuration fails on the reset values. -/
theorem onlyKeystreamCommandsNeedConfigAfterReset : Obligations.OnlyKeystreamCommandsNeedConfigAfterReset := by
  intro x y
  obtain ⟨_, hcheck⟩ := configCheck_resetOf x y
  refine ⟨fun i hi => exec_of_notConfigured ?_, fun i hi => exec_keeps_errCode_zero rfl ?_, fun n hn =>
    ⟨exec_keeps_errCode_zero rfl (if_neg hn), exec_keeps_errCode_zero rfl (if_neg hn)⟩,
    fun a b c d hab hac had hbc hbd hcd => exec_keeps_errCode_zero rfl (if_neg ?_)⟩
  · simp only [List.mem_cons, List.not_mem_nil, or_false] at hi
    obtain rfl | rfl | rfl | rfl := hi <;> rfl
  · simp only [List.mem_cons, List.not_mem_nil, or_false] at hi
    obtain rfl | rfl | rfl | rfl | rfl | rfl := hi
    case inr.inr.inl => exact rejectionCode_config_of_ok hcheck
    all_goals rfl
  · simp only [hab, hac, had, hbc, hbd, hcd, or_self, not_false_eq_true]

/-- Settles O57: CONFIG makes the default seed active on every build, and whichever datapath it binds, GENERATE fills
OUT with that seed's first buffer. -/
theorem defaultSeedGivesTheSourceWords : Obligations.DefaultSeedGivesTheSourceWords := by
  intro x y
  obtain ⟨t, ht, hconf, hkey, hsid, hr, hc⟩ := exec_config_resetOf x y
  obtain ⟨u, hu, hout⟩ := exec_generate_out hconf
  rw [hkey, hsid, hr, hc] at hout
  refine ⟨t, u, ht, hu, hkey, hsid, hr, hc, ?_⟩
  rw [hout]
  exact default_seed_words

/-- Settles O58: after reset nothing is configured or bound, AR is 0 and ERRCODE is 0. -/
theorem invariantHoldsAtReset : Obligations.InvariantHoldsAtReset :=
  ⟨iff_of_true rfl rfl, fun _ => rfl, Bool.noConfusion, nofun, nofun, Nat.zero_le 8⟩

end Sys2Proof.Machine
end
